-- ==== Sys2Proof/Word.lean ====
section
/-! DEFINITION. The two word types of the block: the byte of R6 and the 32-bit host register of R21. -/

namespace Sys2Proof

/-- A byte: an unsigned integer 0 to 255 (R6). -/
abbrev Byte := BitVec 8

/-- A host register, or a command word: 32 bits, accessed whole (R21, R36, R55). -/
abbrev Word := BitVec 32

end Sys2Proof
end

