-- ==== Sys2Proof/Config.lean ====
section
/-! DEFINITION. The implementation parameters of R5 with the value this hardware takes, the two OPEN parameters
and the environment's content at reset (no body: nothing can be proved of their value), and the source of free values. -/

namespace Sys2Proof.Config

/-- `BAUD`: the fixed baud rate handed to the transport (R5, R71). -/
def baud : Nat := 10417

/-- `BIT_PERIOD`: the duration of one bit in time units (R5, R71). -/
def bitPeriod : Byte := 96#8

/-- `BREAK_BITS`: the break's dominant bit periods (R5, R72). -/
def breakBits : Byte := 13#8

/-- `BREAK_DELIM_BITS`: the recessive bit periods after the dominant hold (R5, R72). -/
def breakDelimBits : Byte := 1#8

/-- `XCVR_SETTLE`: the transceiver settle delay in time units (R5, R74, R75). -/
def xcvrSettle : Byte := 20#8

/-- `INIT_SETTLE`: the initialization settle delay in time units (R5, R115, R116). -/
def initSettle : Byte := 200#8

/-- `SYNC`: the sync byte (R5, R50). -/
def sync : Byte := 0x55#8

/-- `MAX_PAYLOAD`: the most payload bytes of a frame (R5, R61 b). -/
def maxPayload : Nat := 8

/-- `BUF_DEPTH`: the depth of TXBUF and of RXBUF (R5, R18). -/
def bufDepth : Nat := 256

/-- `CTRL_NORMAL_LEVEL`: the logic level of the control line in Normal (R5, decision D7). -/
def ctrlNormalLevel : Bool := true

/-- `DOMINANT_LEVEL`: the logic level of the transmit line when dominant (R5, decision D7). -/
def dominantLevel : Bool := false

/-- `PWR_CTRL_EN`: OPEN (R5, R77, decision D6): the value the instance has from reset on. Log entry 9. -/
opaque pwrCtrlEn : Bool

/-- `TX_DRAIN_BEFORE_SLEEP`: OPEN (R5, R41, decision D19). Log entry 10. -/
opaque txDrainBeforeSleep : Bool

/-- The receive queue's content when the instance begins: a parameter, not the block's (R142, U15). Log entry 23. -/
opaque rxAtReset : List Byte

/-- The bytes in the transport's transmit path when the instance begins: not the block's either (R142). Log entry 10. -/
opaque txAtReset : List Byte

/-- The source of free values: the k-th draw of a run, about which nothing can be proved
(treatment `any value` of 93_implementation_defined.md: U2, U3, U14, U20). Log entry 4. -/
opaque freeByte : Nat → Byte

end Sys2Proof.Config
end

