-- ==== Sys2Proof/Syntax.lean ====
section
/-! DEFINITION. The nine commands of R59, one constructor per row of spec/opcode_table.json, with the scalar operands
their command word carries (R55, R56). The payload operand is not in the word: it is TXBUF (R57). -/

namespace Sys2Proof

inductive Instr where
  /-- CONSTRUCT_M mode (R115) -/
  | constructM (mode : Bool)
  /-- CONSTRUCT_S mode, id (R116) -/
  | constructS (mode : Bool) (id : Byte)
  /-- CFG_RX (R117) -/
  | cfgRx
  /-- WRITE id, len (R95) -/
  | write (id : Byte) (len : Byte)
  /-- WRITE_REQ id (R96) -/
  | writeReq (id : Byte)
  /-- WRITE_RESP len (R97) -/
  | writeResp (len : Byte)
  /-- WRITE_STREAM len (R98) -/
  | writeStream (len : Byte)
  /-- READ n (R105) -/
  | read (len : Byte)
  /-- READ_STREAM n (R106) -/
  | readStream (len : Byte)
  deriving DecidableEq, Repr

end Sys2Proof
end

