-- ==== Sys2Proof/Decode.lean ====
section
/-! DEFINITION. The command word: its fields (R55), the six formats (R56), the decoder (R59, R60), the encoder (R63)
and the mask and match columns of R59's table. -/

namespace Sys2Proof

/-- Why a command word is reserved (R60). -/
inductive Reject where
  /-- a bit of 31:25 is not zero -/
  | highBits
  /-- OPC is none of the nine -/
  | opcode
  /-- a field its format does not use is not zero -/
  | unusedField
  deriving DecidableEq, Repr

/-- OPC[7:0] (R55). -/
def opcOf (w : Word) : Byte := w.extractLsb' 0 8

/-- ID[15:8] (R55). -/
def idOf (w : Word) : Byte := w.extractLsb' 8 8

/-- LEN[23:16] (R55). -/
def lenOf (w : Word) : Byte := w.extractLsb' 16 8

/-- MODE[24] (R55). -/
def modeOf (w : Word) : Bool := w.getLsbD 24

/-- Bits 31:25, which must be 0 (R55). -/
def highOf (w : Word) : BitVec 7 := w.extractLsb' 25 7

/-- Take the command if the fields its format says must be 0 are 0 (R56). -/
def unusedZero (zero : Bool) (i : Instr) : Except Reject Instr :=
  if zero then .ok i else .error .unusedField

/-- The decoder: formats M, MI, Z, IL, I, L of R56 under the operation codes of R59. -/
def decode (w : Word) : Except Reject Instr :=
  let id := idOf w
  let len := lenOf w
  let mode := modeOf w
  if highOf w ≠ 0#7 then .error .highBits
  else if opcOf w = 0x01#8 then unusedZero (id == 0#8 && len == 0#8) (.constructM mode)
  else if opcOf w = 0x02#8 then unusedZero (len == 0#8) (.constructS mode id)
  else if opcOf w = 0x03#8 then unusedZero (id == 0#8 && len == 0#8 && !mode) .cfgRx
  else if opcOf w = 0x10#8 then unusedZero (!mode) (.write id len)
  else if opcOf w = 0x11#8 then unusedZero (len == 0#8 && !mode) (.writeReq id)
  else if opcOf w = 0x12#8 then unusedZero (id == 0#8 && !mode) (.writeResp len)
  else if opcOf w = 0x13#8 then unusedZero (id == 0#8 && !mode) (.writeStream len)
  else if opcOf w = 0x20#8 then unusedZero (id == 0#8 && !mode) (.read len)
  else if opcOf w = 0x21#8 then unusedZero (id == 0#8 && !mode) (.readStream len)
  else .error .opcode

/-- `OPC | ID << 8 | LEN << 16 | MODE << 24` (R63). -/
def assemble (opc id len : Byte) (mode : Bool) : Word :=
  opc.setWidth 32 ||| (id.setWidth 32 <<< 8) ||| (len.setWidth 32 <<< 16) ||| ((BitVec.ofBool mode).setWidth 32 <<< 24)

/-- The encoder: the command word of each command, unused fields 0 (R56, R59, R63). -/
def encode : Instr → Word
  | .constructM mode => assemble 0x01#8 0#8 0#8 mode
  | .constructS mode id => assemble 0x02#8 id 0#8 mode
  | .cfgRx => assemble 0x03#8 0#8 0#8 false
  | .write id len => assemble 0x10#8 id len false
  | .writeReq id => assemble 0x11#8 id 0#8 false
  | .writeResp len => assemble 0x12#8 0#8 len false
  | .writeStream len => assemble 0x13#8 0#8 len false
  | .read len => assemble 0x20#8 0#8 len false
  | .readStream len => assemble 0x21#8 0#8 len false

/-- A row of R59's table: `mask` selects the bits that must equal `value` (its column `match`). -/
structure Row where
  mnemonic : String
  mask : Word
  value : Word
  deriving DecidableEq, Repr

/-- R59's table, in its order. -/
def rows : List Row :=
  [⟨"CONSTRUCT_M", 0xFEFFFFFF#32, 0x00000001#32⟩,
   ⟨"CONSTRUCT_S", 0xFEFF00FF#32, 0x00000002#32⟩,
   ⟨"CFG_RX", 0xFFFFFFFF#32, 0x00000003#32⟩,
   ⟨"WRITE", 0xFF0000FF#32, 0x00000010#32⟩,
   ⟨"WRITE_REQ", 0xFFFF00FF#32, 0x00000011#32⟩,
   ⟨"WRITE_RESP", 0xFF00FFFF#32, 0x00000012#32⟩,
   ⟨"WRITE_STREAM", 0xFF00FFFF#32, 0x00000013#32⟩,
   ⟨"READ", 0xFF00FFFF#32, 0x00000020#32⟩,
   ⟨"READ_STREAM", 0xFF00FFFF#32, 0x00000021#32⟩]

/-- Whether a word is one of the row's words: `w AND mask = match` (R59). -/
def Row.hits (r : Row) (w : Word) : Bool := w &&& r.mask == r.value

/-- The row of R59 that a command belongs to. -/
def Instr.row : Instr → Row
  | .constructM _ => ⟨"CONSTRUCT_M", 0xFEFFFFFF#32, 0x00000001#32⟩
  | .constructS _ _ => ⟨"CONSTRUCT_S", 0xFEFF00FF#32, 0x00000002#32⟩
  | .cfgRx => ⟨"CFG_RX", 0xFFFFFFFF#32, 0x00000003#32⟩
  | .write _ _ => ⟨"WRITE", 0xFF0000FF#32, 0x00000010#32⟩
  | .writeReq _ => ⟨"WRITE_REQ", 0xFFFF00FF#32, 0x00000011#32⟩
  | .writeResp _ => ⟨"WRITE_RESP", 0xFF00FFFF#32, 0x00000012#32⟩
  | .writeStream _ => ⟨"WRITE_STREAM", 0xFF00FFFF#32, 0x00000013#32⟩
  | .read _ => ⟨"READ", 0xFF00FFFF#32, 0x00000020#32⟩
  | .readStream _ => ⟨"READ_STREAM", 0xFF00FFFF#32, 0x00000021#32⟩

/-- The word that a table-numbered instruction stands for: its `nbits` low bits, every bit above them 0. -/
def tableWord (nbits w : Nat) : Nat := w % 2 ^ nbits

/-- The command the decoder reads from a word given as the opcode table numbers its bits. The command word is one
32-bit unit written to CMD whole, so there is no byte order to lay out (R36, R55); a number with a bit above 31 is
no command word. -/
def decodeTableWord (nbits w : Nat) : Option Instr :=
  if tableWord nbits w < 2 ^ 32 then (decode (BitVec.ofNat 32 (tableWord nbits w))).toOption else none

end Sys2Proof
end

