-- ==== Sys2Proof/Machine/State.lean ====
section
/-! DEFINITION. The state of LINCORE as plain data: everything 10_state.md gives the block, the environment's state of
R23, and the model's own fields (the rest of the rule in progress, the trace, the draws, the coming inputs). -/

namespace Sys2Proof.Machine

/-- The node role (R10). -/
inductive Role where
  | master
  | slave
  deriving DecidableEq, Repr

/-- The two power modes of the transceiver: the `m` of `CtrlLine(m)`, the value of `xcvr` (Sleeping, Normal: R12)
and of `ctrl` (SleepLevel, NormalLevel: R20). -/
inductive PowerMode where
  | sleep
  | normal
  deriving DecidableEq, Repr

/-- The transmit-line override (R20). -/
inductive TxOvr where
  | release
  | dominant
  | recessive
  deriving DecidableEq, Repr

/-- STATUS.RESULT (R19, R126). The code 10 is never produced, so it is no constructor. -/
inductive Result where
  | noData
  | success
  | validationFailed
  deriving DecidableEq, Repr

/-- The sequencer states of R16. -/
inductive Seq where
  | idle
  | init
  | powerUp
  | brk
  | emit
  | poll
  | noData
  | reading
  | valid
  | invalid
  | powerDown
  deriving DecidableEq, Repr

/-- The events on the capability interfaces (R7, R31); the answers of the environment are part of the event. -/
inductive Event where
  | ctrlLine (m : PowerMode)
  | txOverride (v : TxOvr)
  | delay (t : BitVec 16)
  | txByte (b : Byte)
  | rxAvail (answer : Bool)
  | rxByte (b : Byte)
  | xportConfig (baud : Nat)
  deriving DecidableEq, Repr

/-- Where a byte handed to the transport comes from (R34, R38): the sync constant, the latched ID, TXBUF[i], or the
checksum of TXBUF[0 .. LEN-1]. -/
inductive TxSource where
  | sync
  | ident
  | buf (i : Byte)
  | checksum
  deriving DecidableEq, Repr

/-- Where a byte taken from the RX queue goes (R43): the next position of WIN, or RXBUF[i]. -/
inductive RxDest where
  | window
  | rxbuf (i : Byte)
  deriving DecidableEq, Repr

/-- One action of a command's rule: an event (R7), a register write, or the command's return. -/
inductive Act where
  /-- `CtrlLine(m)`; `ctrl` and `xcvr` follow (R74, R75) -/
  | ctrlLine (m : PowerMode)
  /-- `TxOverride(v)` (R72) -/
  | txOverride (v : TxOvr)
  /-- `Delay(t)`: the timer is loaded and must run out before the next action (R22) -/
  | delay (t : BitVec 16)
  /-- `TxByte` of the byte that the source names at this moment (R42) -/
  | txByte (src : TxSource)
  /-- `XportConfig(BAUD)` (R117) -/
  | xportConfig
  /-- `rx_configured <- 1` (R117) -/
  | markConfigured
  /-- `constructed <- 1` (R115, R116) -/
  | markConstructed
  /-- `seq <- q` (R7, R16) -/
  | goto (q : Seq)
  /-- `RXBUF[i] <- WIN[i+2]` for i below LEN (R44) -/
  | copyPayload
  /-- `RXBUF[0 .. LEN-1] <- unspecified` (R105) -/
  | spoilPayload
  /-- the return: STATUS.RESULT if the command has a status, DONE, and `seq` to Idle (R46, R58) -/
  | ret (r : Option Result)
  deriving DecidableEq, Repr

/-- What is left of a command's rule: straight actions, the poll with its two ways, the taking of a byte, which waits
until there is one, and the validation with its two ways (R107, R131). -/
inductive Plan where
  | stop
  | act (a : Act) (next : Plan)
  /-- `RxAvail()`: on false to `empty`, on true to `avail` -/
  | poll (empty : Plan) (avail : Plan)
  /-- `RxByte()` into `d` -/
  | take (d : RxDest) (next : Plan)
  /-- the identifier and checksum checks of READ on WIN -/
  | judge (bad : Plan) (good : Plan)
  deriving DecidableEq, Repr

/-- What the host or the environment can do other than a synchronous call of a command (R23, R45, R140). -/
inductive Stimulus where
  /-- `MemWrite(num, 4, v)`; a write to CMD starts a command and does not wait for it -/
  | write (num : BitVec 10) (v : Word)
  /-- `MemRead(num, 4)` -/
  | read (num : BitVec 10)
  /-- the host begins a WAIT (R64) -/
  | wait
  /-- nothing from outside: the block makes its next move (one action, or one tick of the timer) -/
  | run
  /-- a received byte arrives in the transport's RX queue -/
  | arrive (b : Byte)
  /-- the RX queue changes in a way the spec leaves to the transport (overflow, flush, sleep, break: N9, N10, N17) -/
  | rxBecomes (q : List Byte)
  /-- the transport finishes shifting out the oldest byte handed to it; while `txovr` is not Release that byte does not
  reach the line (R72, R151). DESIGN CHOICE: it may happen under an override too (log entry 29) -/
  | shift
  /-- `rst` is asserted and released (R140) -/
  | reset
  deriving DecidableEq, Repr

/-- The next thing that happens to the block from outside. -/
inductive Input where
  /-- a command line of R64: `MemWrite(0x000, 4, word)` followed by WAIT, the source's synchronous call -/
  | command (word : Word)
  | other (x : Stimulus)
  deriving DecidableEq, Repr

structure State where
  /-- R10 -/
  role : Role
  /-- the expected identifier byte (R11) -/
  ident : Byte
  /-- R12 -/
  xcvr : PowerMode
  /-- R15 -/
  constructed : Bool
  /-- R15 -/
  rxConfigured : Bool
  /-- the sequencer state (R16) -/
  seq : Seq
  /-- operand latch ID (R17) -/
  opId : Byte
  /-- operand latch LEN (R17) -/
  opLen : Byte
  /-- operand latch MODE (R17) -/
  opMode : Bool
  /-- TXBUF[i] at 0x100 + i and RXBUF[i] at 0x200 + i, keyed by register number, in canonical form (R18, R21) -/
  mem : List Host.Cell
  /-- WIN, the positions filled so far, position 0 first (R18) -/
  win : List Byte
  /-- STATUS.DONE (R19) -/
  done : Bool
  /-- STATUS.RESULT (R19) -/
  result : Result
  /-- the level driven on the transceiver control line (R20) -/
  ctrl : PowerMode
  /-- the transmit-line override (R20) -/
  txovr : TxOvr
  /-- the interval timer (R22) -/
  timer : BitVec 16
  /-- the static configuration input PWR_CTRL_EN (R77): no operation writes it -/
  pwrCtrlEn : Bool
  /-- the static parameter TX_DRAIN_BEFORE_SLEEP (R5, D19): no operation writes it -/
  txDrain : Bool
  /-- reg_rdata: what the host's last MemRead got (R32, R45), the reads of a WAIT among them (R64) -/
  rdata : Word
  /-- the host is inside a WAIT: it reads STATUS until BUSY is 0 (R64; log entry 28) -/
  inWait : Bool
  /-- environment: the transport's receive queue, oldest byte first (R23 a) -/
  rxQueue : List Byte
  /-- environment: the baud rate the transport is prepared for, if it is (R23 b) -/
  xport : Option Nat
  /-- environment: bytes handed to the transport and not yet shifted out, oldest first (R41, R46; log entries 10, 29) -/
  txPending : List Byte
  /-- model: what is left of the rule of the command in progress (log entry 1) -/
  plan : Plan
  /-- model: the events so far, in order (R7; log entry 3) -/
  trace : List Event
  /-- model: how many free values have been drawn (log entry 4) -/
  draws : Nat
  /-- model: what the host and the environment do next (log entry 2) -/
  inputs : List Input
  deriving DecidableEq, Repr

/-- The faults: none. The block has no traps (R7), every outcome is a return status (R125, R130), and the control line
and the transport have no failure the block can see (U9, U10), so nothing raises a fault; the type is empty. -/
inductive Fault where
  deriving DecidableEq, Repr

/-- The refusals: the inputs to which the spec gives no meaning (93_implementation_defined.md, treatment `refuse`).
All are safe: the machine stops where the hardware would go on in an undefined way. -/
inductive Refusal where
  /-- raised by an arm of `exec` that has no meaning yet; safe. No arm of this model raises it. -/
  | notModelled (mnemonic : String)
  /-- raised by any command, and by a host write of CMD or TXBUF, while another command runs (U1); safe -/
  | busy
  /-- raised by a construct command when `constructed` = 1 (U7); safe -/
  | alreadyConstructed
  /-- raised by every other command when `constructed` = 0 (U7); safe -/
  | notConstructed
  /-- raised by READ and READ_STREAM when `rx_configured` = 0 (U5); safe -/
  | rxNotConfigured
  /-- raised by a construct command whose MODE is 0 (U6); safe -/
  | modeFalse
  /-- raised by WRITE, WRITE_RESP and READ with LEN above MAX_PAYLOAD (U4); safe -/
  | payloadTooLong
  /-- raised by a reserved command word (U8); safe -/
  | reservedWord (why : Reject)
  deriving DecidableEq, Repr

/-- The role a free byte stands for, where the spec leaves the role unspecified (R10). -/
def Role.ofByte (b : Byte) : Role := if b.getLsbD 0 then .slave else .master

/-- The state of R140, the two registers the spec leaves unspecified and observable (`role`, `ident`) drawn from the
free values number `d` and `d + 1`. -/
def State.powerOn (d : Nat) : State where
  role := Role.ofByte (Config.freeByte d)
  ident := Config.freeByte (d + 1)
  xcvr := .sleep
  constructed := false
  rxConfigured := false
  seq := .idle
  opId := 0#8
  opLen := 0#8
  opMode := false
  mem := []
  win := []
  done := false
  result := .noData
  ctrl := .sleep
  txovr := .release
  timer := 0#16
  pwrCtrlEn := Config.pwrCtrlEn
  txDrain := Config.txDrainBeforeSleep
  rdata := 0#32
  inWait := false
  rxQueue := Config.rxAtReset
  xport := none
  txPending := Config.txAtReset
  plan := .stop
  trace := []
  draws := d + 2
  inputs := []

/-- The machine right after reset (R140, R142). -/
def State.reset : State := State.powerOn 0

end Sys2Proof.Machine
end

