-- ==== Sys2Proof/Machine/Ops.lean ====
section
/-! DEFINITION. The named operations over the state: the buffers as memory, the two lines, the timer, the transport's
three interfaces, the latching of a command, its return (what stands for taking an exception and returning from it:
R130, R131), and reset. -/

namespace Sys2Proof.Machine

/-- The answer of a command, and of every step. -/
abbrev Answer := Host.Outcome State Fault Refusal

/-! ### The buffers (R18, R21), keyed by register number -/

/-- What a buffer byte that nothing has written reads as. DESIGN CHOICE, unsafe (log entry 6): R18 leaves it
unspecified. -/
def Memory.unlisted : Byte := 0#8

/-- One byte of the buffers. -/
def Memory.read : List Host.Cell → Nat → Byte
  | [], _ => Memory.unlisted
  | (k, b) :: rest, a => if k = a then b else Memory.read rest a

/-- A cell in front of a list, unless it holds what an unlisted byte reads as. -/
def Memory.put (a : Nat) (v : Byte) (rest : List Host.Cell) : List Host.Cell :=
  if v = Memory.unlisted then rest else (a, v) :: rest

/-- Write one byte, keeping the canonical form. -/
def Memory.write : List Host.Cell → Nat → Byte → List Host.Cell
  | [], a, v => Memory.put a v []
  | (k, b) :: rest, a, v =>
    if a < k then Memory.put a v ((k, b) :: rest)
    else if a = k then Memory.put a v rest
    else (k, b) :: Memory.write rest a v

/-- Write bytes at `a`, `a + 1`, … in index order (R34). -/
def Memory.writeBytes : List Host.Cell → Nat → List Byte → List Host.Cell
  | m, _, [] => m
  | m, a, v :: vs => Memory.writeBytes (Memory.write m a v) (a + 1) vs

/-- The addresses are at least `lo` and rise strictly, and no entry holds what an unlisted byte reads as. -/
def Memory.risesFrom : Nat → List Host.Cell → Bool
  | _, [] => true
  | lo, (k, v) :: rest => decide (lo ≤ k) && decide (v ≠ Memory.unlisted) && Memory.risesFrom (k + 1) rest

/-- The canonical form. -/
def Memory.wf (m : List Host.Cell) : Bool := Memory.risesFrom 0 m

/-- Only register numbers of the two buffers are listed (R21, R30). -/
def Memory.inBuffers (m : List Host.Cell) : Bool := m.all fun c => decide (0x100 ≤ c.1) && decide (c.1 < 0x300)

/-- The register number of TXBUF[i] (R21). -/
def txAddr (i : Byte) : Nat := 0x100 + i.toNat

/-- The register number of RXBUF[i] (R21). -/
def rxAddr (i : Byte) : Nat := 0x200 + i.toNat

/-- TXBUF[i]. -/
def State.txbuf (s : State) (i : Byte) : Byte := Memory.read s.mem (txAddr i)

/-- RXBUF[i]. -/
def State.rxbuf (s : State) (i : Byte) : Byte := Memory.read s.mem (rxAddr i)

/-! ### Events and the state they write -/

/-- Record an event (R7). -/
def State.emit (s : State) (e : Event) : State := { s with trace := s.trace ++ [e] }

/-- `seq <- q` (R7). -/
def State.goto (s : State) (q : Seq) : State := { s with seq := q }

/-- The timer runs out (R22). -/
def State.elapse (s : State) : State := { s with timer := 0#16 }

/-- `Delay(t)` begins: the timer counts down from `t` (R22). -/
def State.startDelay (s : State) (t : BitVec 16) : State := { s.emit (.delay t) with timer := t }

/-- One time unit passes (R22). -/
def State.tick (s : State) : State := { s with timer := s.timer - 1#16 }

/-- What the transport still has to shift out when the control line goes to `m`: nothing is left before Sleep if
TX_DRAIN_BEFORE_SLEEP holds (R41, R75). -/
def State.pendingAt (s : State) (m : PowerMode) : List Byte :=
  if m = .sleep ∧ s.txDrain = true then [] else s.txPending

/-- `CtrlLine(m)`: the line is driven and `xcvr` mirrors it (R12, R20, R74, R75). -/
def State.driveCtrl (s : State) (m : PowerMode) : State :=
  { s.emit (.ctrlLine m) with ctrl := m, xcvr := m, txPending := s.pendingAt m }

/-- `TxOverride(v)` (R20, R72). What it does to bytes in the transport's transmit path is not in the source (R151, N10):
DESIGN CHOICE, unsafe for a claim about those bytes: `txPending` stays (log entry 29). -/
def State.driveOverride (s : State) (v : TxOvr) : State := { s.emit (.txOverride v) with txovr := v }

/-- `TxByte(b)`: the byte is queued for the wire (R37). -/
def State.handOver (s : State) (b : Byte) : State := { s.emit (.txByte b) with txPending := s.txPending ++ [b] }

/-- `XportConfig(BAUD)` (R117). What "prepares" does inside the transport is not in the source (R117, N11): DESIGN CHOICE,
unsafe for a claim about `txPending`: the bytes still in the transmit path stay, and so does the RX queue, which an input
of the environment may change at once (log entry 30). -/
def State.configureTransport (s : State) : State :=
  { s.emit (.xportConfig Config.baud) with xport := some Config.baud }

/-- `RxAvail()` answers: the sequencer goes to NoData or to Reading; nothing is consumed (R37, R107). -/
def State.answerPoll (s : State) (answer : Bool) : State :=
  (s.emit (.rxAvail answer)).goto (if answer then .reading else .noData)

/-- `RxByte()` answers `b`, the oldest byte, leaving `q` in the queue; the byte goes to its destination (R43). -/
def State.takeByte (s : State) (d : RxDest) (b : Byte) (q : List Byte) : State :=
  match d with
  | .window => { s.emit (.rxByte b) with rxQueue := q, win := s.win ++ [b] }
  | .rxbuf i => { s.emit (.rxByte b) with rxQueue := q, mem := Memory.write s.mem (rxAddr i) b }

/-- A command is accepted: the operands are latched, DONE is cleared, WIN is empty, the sequencer leaves Idle and has
the command's rule before it (R17, R19, R45). -/
def State.issue (s : State) (first : Seq) (id len : Byte) (mode : Bool) (p : Plan) : State :=
  { s with opId := id, opLen := len, opMode := mode, done := false, win := [], seq := first, plan := p }

/-- STATUS.RESULT after a return: unchanged by a command that has no status (R19, R58). -/
def State.resultAfter (s : State) (r : Option Result) : Result := r.getD s.result

/-- A command returns: RESULT if it has a status, DONE, `seq` to Idle (R46, R130). -/
def State.finish (s : State) (r : Option Result) : State :=
  { s with result := s.resultAfter r, done := true, seq := .idle }

/-! ### Reset -/

/-- `rst` (R140, R142): the block takes its reset state without an event, the command in progress is abandoned; the
environment, the static inputs and the model's records stay, and the transport counts as unprepared (log entry 14). -/
def State.hardReset (s : State) : State :=
  { State.powerOn s.draws with
    pwrCtrlEn := s.pwrCtrlEn, txDrain := s.txDrain, rdata := s.rdata, inWait := s.inWait, rxQueue := s.rxQueue,
    txPending := s.txPending, trace := s.trace, inputs := s.inputs }

end Sys2Proof.Machine
end

