-- ==== Sys2Proof/Machine/Flags.lean ====
section
/-! DEFINITION. The checksum generator, the two checks of a window, and the host-visible status words
(41_checksum_and_filter.md, R19, R21, R126). -/

namespace Sys2Proof.Machine

/-- The sum of a byte list as a natural number (R6). -/
def sumBytes (p : List Byte) : Nat := (p.map BitVec.toNat).sum

/-- `cks(p) = 255 - ((sum(p) + 1) mod 256)` (R85). -/
def cks (p : List Byte) : Byte := BitVec.ofNat 8 (255 - (sumBytes p + 1) % 256)

/-- `idOK(b)`: equality of all eight bits (R89). -/
def idOK (ident b : Byte) : Bool := b == ident

/-- `W[2 .. n+1]`, the payload positions of a window (R34, R52). -/
def windowPayload (w : List Byte) (n : Nat) : List Byte := (w.drop 2).take n

/-- `cksOK(W, n)`: the checksum of the payload positions against the trailing byte `W[n+2]` (R87). -/
def cksOK (w : List Byte) (n : Nat) : Bool := w[n + 2]? == some (cks (windowPayload w n))

/-- The identifier position of a window against `ident`: `idOK(W[1])` (R89, R105). -/
def windowIdOK (ident : Byte) (w : List Byte) : Bool := w[1]?.any (idOK ident)

/-- Both checks of READ on the window taken (R105). -/
def State.windowOK (s : State) : Bool := windowIdOK s.ident s.win && cksOK s.win s.opLen.toNat

/-- STATUS.BUSY: `seq` is not Idle (R19). -/
def State.busy (s : State) : Bool := s.seq != .idle

/-- The two bits of STATUS.RESULT (R126). -/
def Result.code : Result → BitVec 2
  | .noData => 0b00#2
  | .success => 0b01#2
  | .validationFailed => 0b11#2

/-- A word with the bits of `v` if the flag is set. -/
def flagBits (flag : Bool) (v : Word) : Word := if flag then v else 0#32

/-- The STATUS register (R19). -/
def State.statusWord (s : State) : Word :=
  flagBits s.busy 0x01#32 ||| flagBits s.done 0x02#32 ||| (s.result.code.setWidth 32 <<< 2) |||
  flagBits (s.xcvr == .normal) 0x10#32 ||| flagBits s.rxConfigured 0x20#32 ||| flagBits s.constructed 0x40#32

/-- The NODE register (R21): IDENT[7:0], ROLE[8]. -/
def State.nodeWord (s : State) : Word := s.ident.setWidth 32 ||| flagBits (s.role == .slave) 0x100#32

/-- The TIMING register (R13, R21), from the constants. -/
def timingWord : Word :=
  Config.bitPeriod.setWidth 32 ||| (Config.breakBits.setWidth 32 <<< 8) |||
  (Config.xcvrSettle.setWidth 32 <<< 16) ||| (Config.initSettle.setWidth 32 <<< 24)

end Sys2Proof.Machine
end

