-- ==== Sys2Proof/Machine/Operands.lean ====
section
/-! DEFINITION. The operands of the commands (R43, R57): the payload in TXBUF, the bytes a write makes itself, and the
lists of actions every command is built from: bit timing, the break, the power bracket (40_timing_and_power.md). -/

namespace Sys2Proof.Machine

/-- The payload operand `[TXBUF[0], ..., TXBUF[n-1]]` (R57). -/
def State.payload (s : State) (n : Nat) : List Byte := (List.range n).map fun i => s.txbuf (BitVec.ofNat 8 i)

/-- The byte a source stands for at this moment (R34, R38, R42). -/
def State.source (s : State) : TxSource → Byte
  | .sync => Config.sync
  | .ident => s.opId
  | .buf i => s.txbuf i
  | .checksum => cks (s.payload s.opLen.toNat)

/-- A number of bit periods in time units. -/
def bitTimes (bits : Byte) : BitVec 16 := BitVec.ofNat 16 (bits.toNat * Config.bitPeriod.toNat)

/-- `breakDuration(bits) = bits × BIT_PERIOD` (R70). -/
def breakDuration (bits : Byte) : BitVec 16 := bitTimes bits

/-- `EmitBreak()` (R72). -/
def emitBreak : List Act :=
  [.txOverride .dominant, .delay (breakDuration Config.breakBits), .txOverride .recessive,
   .delay (bitTimes Config.breakDelimBits), .txOverride .release]

/-- The settle delay of the power controller in time units (R74, R75). -/
def settleTime : BitVec 16 := Config.xcvrSettle.setWidth 16

/-- The initialization settle delay in time units (R115, R116). -/
def initTime : BitVec 16 := Config.initSettle.setWidth 16

/-- `EnterNormal()`: nothing when power control is disabled (R74). -/
def enterNormal (pwr : Bool) : List Act := if pwr then [.ctrlLine .normal, .delay settleTime] else []

/-- `EnterSleep()`: nothing when power control is disabled (R75). -/
def enterSleep (pwr : Bool) : List Act := if pwr then [.ctrlLine .sleep, .delay settleTime] else []

/-- `for i = 0 to n-1: TxByte(TXBUF[i])` (R95, R97, R98). -/
def sendPayload (n : Nat) : List Act := (List.range n).map fun i => .txByte (.buf (BitVec.ofNat 8 i))

/-- The destinations of a framed read: n + 3 positions of WIN (R105). -/
def windowDests (n : Nat) : List RxDest := List.replicate (n + 3) .window

/-- The destinations of a stream read: RXBUF[0 .. n-1] (R106). -/
def streamDests (n : Nat) : List RxDest := (List.range n).map fun i => .rxbuf (BitVec.ofNat 8 i)

/-- Straight actions, then the rest. -/
def Plan.after (acts : List Act) (rest : Plan) : Plan := acts.foldr .act rest

/-- `RxByte()` once for each destination in order, then the rest. -/
def Plan.taking (dests : List RxDest) (rest : Plan) : Plan := dests.foldr .take rest

/-- The end of every write and read: `EnterSleep()` and the return (R76, R107). -/
def closing (pwr : Bool) (r : Result) : Plan :=
  Plan.after (.goto .powerDown :: enterSleep pwr ++ [.ret (some r)]) .stop

end Sys2Proof.Machine
end

