-- ==== Sys2Proof/WellFormed.lean ====
section
/-! DEFINITION. The operand values a valid command word may hold (R61): MODE = 1 in a construct command, and
LEN at most MAX_PAYLOAD in the three commands that build or take a frame. -/

namespace Sys2Proof

/-- The length bound of a frame's payload, "0–8 bytes" (R61 b). -/
def payloadOk (len : Byte) : Bool := decide (len.toNat ≤ Config.maxPayload)

/-- No operand value of the command is reserved (R61). -/
def Instr.wellFormed : Instr → Bool
  | .constructM mode => mode
  | .constructS mode _ => mode
  | .cfgRx => true
  | .write _ len => payloadOk len
  | .writeReq _ => true
  | .writeResp len => payloadOk len
  | .writeStream _ => true
  | .read len => payloadOk len
  | .readStream _ => true

end Sys2Proof
end

