-- ==== Sys2Proof/Machine/Sequencer.lean ====
section
/-! DEFINITION. The sequencer (R16, R107, R131): what each action does, a command run to its end or to the wait for a
byte (the command level of decision D1), and the block's single move (the event level, one tick of the timer or one
action), over the same actions. -/

namespace Sys2Proof.Machine

/-- The bytes left in RXBUF[0 .. n-1] by a failed validation: free values, drawn afresh (R105, U2; log entry 4). -/
def State.drawn (s : State) (n : Nat) : List Byte := (List.range n).map fun i => Config.freeByte (s.draws + i)

/-- `RXBUF[i] <- WIN[i+2]` for i below LEN (R44). -/
def State.copyPayload (s : State) : State :=
  { s with mem := Memory.writeBytes s.mem 0x200 (windowPayload s.win s.opLen.toNat) }

/-- `RXBUF[0 .. LEN-1] <- unspecified`: LEN fresh draws; RXBUF[LEN ..] is not written (R105). -/
def State.spoilPayload (s : State) : State :=
  { s with mem := Memory.writeBytes s.mem 0x200 (s.drawn s.opLen.toNat), draws := s.draws + s.opLen.toNat }

/-- One action. It touches neither the plan nor the inputs. -/
def Act.perform (a : Act) (s : State) : State :=
  match a with
  | .ctrlLine m => s.driveCtrl m
  | .txOverride v => s.driveOverride v
  | .delay t => s.startDelay t
  | .txByte src => s.handOver (s.source src)
  | .xportConfig => s.configureTransport
  | .markConfigured => { s with rxConfigured := true }
  | .markConstructed => { s with constructed := true }
  | .goto q => s.goto q
  | .copyPayload => s.copyPayload
  | .spoilPayload => s.spoilPayload
  | .ret r => s.finish r

/-- The verdict on a window moves the sequencer to Valid or Invalid (R107). -/
def State.verdict (s : State) : State := s.goto (if s.windowOK then .valid else .invalid)

/-- A command's rule run to its end, or to the `RxByte` that finds the queue empty (R108). The timer runs out before
each action (R22). -/
def Plan.run : Plan → State → State
  | .stop, s => { s.elapse with plan := .stop }
  | .act a next, s => next.run (a.perform s.elapse)
  | .poll empty avail, s =>
    if s.rxQueue.isEmpty then empty.run (s.elapse.answerPoll false) else avail.run (s.elapse.answerPoll true)
  | .take d next, s =>
    match s.rxQueue with
    | [] => { s.elapse with plan := .take d next }
    | b :: q => next.run (s.elapse.takeByte d b q)
  | .judge bad good, s => if s.windowOK then good.run s.elapse.verdict else bad.run s.elapse.verdict

/-- The block's single move: while the timer is not zero, one tick (R22); else the next action of the rule in progress.
It does not move at rest, nor while it waits for a byte (R108, R147). -/
def advance (s : State) : State :=
  if s.timer ≠ 0#16 then s.tick
  else
    match s.plan with
    | .stop => s
    | .act a next => { a.perform s with plan := next }
    | .poll empty avail =>
      if s.rxQueue.isEmpty then { s.answerPoll false with plan := empty } else { s.answerPoll true with plan := avail }
    | .take d next =>
      match s.rxQueue with
      | [] => s
      | b :: q => { s.takeByte d b q with plan := next }
    | .judge bad good => { s.verdict with plan := if s.windowOK then good else bad }

/-- A precondition of a command (R118, R129 (3)): broken, the command is refused before any step. -/
def require (c : Bool) (r : Refusal) (k : Answer) : Answer := if c then k else .refused r

/-- The preconditions of every command but the two construct commands: `seq` = Idle, `constructed` = 1. -/
def whenReady (s : State) (k : Answer) : Answer :=
  require (!s.busy) .busy (require s.constructed .notConstructed k)

/-- The preconditions of a construct command: `seq` = Idle, `constructed` = 0, MODE = 1 (R115, R116). -/
def whenFresh (s : State) (mode : Bool) (k : Answer) : Answer :=
  require (!s.busy) .busy (require (!s.constructed) .alreadyConstructed (require mode .modeFalse k))

/-- The precondition of a command that builds or takes a frame: LEN ≤ MAX_PAYLOAD (R61 b). -/
def whenFrame (len : Byte) (k : Answer) : Answer := require (payloadOk len) .payloadTooLong k

/-- The precondition of a read command: `rx_configured` = 1 (R117). -/
def whenConfigured (s : State) (k : Answer) : Answer := require s.rxConfigured .rxNotConfigured k

/-- An accepted command run to its end or to its wait. -/
def complete : Answer → Answer
  | .next s => .next (s.plan.run s)
  | .fault f => .fault f
  | .refused r => .refused r

end Sys2Proof.Machine
end

