-- ==== Sys2Proof/Machine/ReadOps.lean ====
section
/-! DEFINITION. The two read commands (43_read_ops.md). -/

namespace Sys2Proof.Machine

/-- R105: EnterNormal, the poll; on true n + 3 bytes into WIN, the two checks, the copy or the unspecified bytes,
EnterSleep and the outcome on every path. -/
def planRead (pwr : Bool) (len : Byte) : Plan :=
  Plan.after (enterNormal pwr ++ [.goto .poll])
    (.poll (closing pwr .noData)
      (Plan.taking (windowDests len.toNat)
        (.judge (.act .spoilPayload (closing pwr .validationFailed)) (.act .copyPayload (closing pwr .success)))))

/-- READ accepted (R105). -/
def acceptRead (len : Byte) (s : State) : Answer :=
  whenReady s (whenConfigured s (whenFrame len (.next (s.issue .powerUp 0#8 len false (planRead s.pwrCtrlEn len)))))

/-- READ (R105). With a true poll and too few bytes in the queue the next state is the block waiting in Reading
(R108), the bytes already in the queue taken. -/
def execRead (len : Byte) (s : State) : Answer := complete (acceptRead len s)

/-- R106: EnterNormal, the poll; on true n bytes straight into RXBUF; EnterSleep and the outcome on both paths. -/
def planReadStream (pwr : Bool) (len : Byte) : Plan :=
  Plan.after (enterNormal pwr ++ [.goto .poll])
    (.poll (closing pwr .noData)
      (Plan.taking (streamDests len.toNat) (.act (.goto .valid) (closing pwr .success))))

/-- READ_STREAM accepted: every LEN (R106). -/
def acceptReadStream (len : Byte) (s : State) : Answer :=
  whenReady s (whenConfigured s (.next (s.issue .powerUp 0#8 len false (planReadStream s.pwrCtrlEn len))))

/-- READ_STREAM (R106). -/
def execReadStream (len : Byte) (s : State) : Answer := complete (acceptReadStream len s)

end Sys2Proof.Machine
end

