-- ==== Sys2Proof/Machine/SystemOps.lean ====
section
/-! DEFINITION. The system commands CONSTRUCT_M, CONSTRUCT_S and CFG_RX (44_system_ops.md). Each has its rule as a
plan, its acceptance, and its meaning, the acceptance run to its end. -/

namespace Sys2Proof.Machine

/-- R115: `Delay(INIT_SETTLE); constructed <- 1`. -/
def planConstructM : Plan := Plan.after [.delay initTime, .markConstructed, .ret none] .stop

/-- CONSTRUCT_M accepted: `role <- Master`; `ident` is not written (R115). -/
def acceptConstructM (mode : Bool) (s : State) : Answer :=
  whenFresh s mode (.next ({ s with role := .master }.issue .init 0#8 0#8 mode planConstructM))

/-- CONSTRUCT_M (R115). -/
def execConstructM (mode : Bool) (s : State) : Answer := complete (acceptConstructM mode s)

/-- R116: `Delay(INIT_SETTLE); EnterNormal(); constructed <- 1`. -/
def planConstructS (pwr : Bool) : Plan :=
  Plan.after ([.delay initTime, .goto .powerUp] ++ enterNormal pwr ++ [.markConstructed, .ret none]) .stop

/-- CONSTRUCT_S accepted: `role <- Slave; ident <- ID` (R116). -/
def acceptConstructS (mode : Bool) (id : Byte) (s : State) : Answer :=
  whenFresh s mode
    (.next ({ s with role := .slave, ident := id }.issue .init id 0#8 mode (planConstructS s.pwrCtrlEn)))

/-- CONSTRUCT_S (R116). -/
def execConstructS (mode : Bool) (id : Byte) (s : State) : Answer := complete (acceptConstructS mode id s)

/-- R117: `XportConfig(BAUD); rx_configured <- 1`. -/
def planCfgRx : Plan := Plan.after [.xportConfig, .markConfigured, .ret none] .stop

/-- CFG_RX accepted (R117). R16 names no sequencer state for it: DESIGN CHOICE Init (log entry 11). -/
def acceptCfgRx (s : State) : Answer := whenReady s (.next (s.issue .init 0#8 0#8 false planCfgRx))

/-- CFG_RX (R117). -/
def execCfgRx (s : State) : Answer := complete (acceptCfgRx s)

end Sys2Proof.Machine
end

