-- ==== Sys2Proof/Machine/WriteOps.lean ====
section
/-! DEFINITION. The four write commands (42_write_ops.md). -/

namespace Sys2Proof.Machine

/-- R95: EnterNormal, EmitBreak, 0x55, ID, the payload, the checksum, EnterSleep, Success. -/
def planWrite (pwr : Bool) (len : Byte) : Plan :=
  Plan.after
    (enterNormal pwr ++ [.goto .brk] ++ emitBreak ++ [.goto .emit, .txByte .sync, .txByte .ident] ++
      sendPayload len.toNat ++ [.txByte .checksum])
    (closing pwr .success)

/-- WRITE accepted (R95). -/
def acceptWrite (id len : Byte) (s : State) : Answer :=
  whenReady s (whenFrame len (.next (s.issue .powerUp id len false (planWrite s.pwrCtrlEn len))))

/-- WRITE (R95). -/
def execWrite (id len : Byte) (s : State) : Answer := complete (acceptWrite id len s)

/-- R96: EnterNormal, EmitBreak, 0x55, ID, EnterSleep, Success. -/
def planWriteReq (pwr : Bool) : Plan :=
  Plan.after
    (enterNormal pwr ++ [.goto .brk] ++ emitBreak ++ [.goto .emit, .txByte .sync, .txByte .ident])
    (closing pwr .success)

/-- WRITE_REQ accepted (R96). -/
def acceptWriteReq (id : Byte) (s : State) : Answer :=
  whenReady s (.next (s.issue .powerUp id 0#8 false (planWriteReq s.pwrCtrlEn)))

/-- WRITE_REQ (R96). -/
def execWriteReq (id : Byte) (s : State) : Answer := complete (acceptWriteReq id s)

/-- R97: EnterNormal, the payload, the checksum, EnterSleep, Success. -/
def planWriteResp (pwr : Bool) (len : Byte) : Plan :=
  Plan.after (enterNormal pwr ++ [.goto .emit] ++ sendPayload len.toNat ++ [.txByte .checksum]) (closing pwr .success)

/-- WRITE_RESP accepted (R97). -/
def acceptWriteResp (len : Byte) (s : State) : Answer :=
  whenReady s (whenFrame len (.next (s.issue .powerUp 0#8 len false (planWriteResp s.pwrCtrlEn len))))

/-- WRITE_RESP (R97). -/
def execWriteResp (len : Byte) (s : State) : Answer := complete (acceptWriteResp len s)

/-- R98: EnterNormal, EmitBreak, the bytes, EnterSleep, Success; no sync byte, no checksum (C1). -/
def planWriteStream (pwr : Bool) (len : Byte) : Plan :=
  Plan.after (enterNormal pwr ++ [.goto .brk] ++ emitBreak ++ [.goto .emit] ++ sendPayload len.toNat)
    (closing pwr .success)

/-- WRITE_STREAM accepted: every LEN (R98). -/
def acceptWriteStream (len : Byte) (s : State) : Answer :=
  whenReady s (.next (s.issue .powerUp 0#8 len false (planWriteStream s.pwrCtrlEn len)))

/-- WRITE_STREAM (R98). -/
def execWriteStream (len : Byte) (s : State) : Answer := complete (acceptWriteStream len s)

end Sys2Proof.Machine
end

