-- ==== Sys2Proof/Machine/HostPort.lean ====
section
/-! DEFINITION. The host register port and the host's WAIT (R21, R36, R37, R45, R64) and the environment's acts (R23, R142):
everything that can happen to the block but a synchronous call of a command. -/

namespace Sys2Proof.Machine

/-- A command is accepted and has not moved yet (R45 "issue a command"). -/
def acceptInstr (i : Instr) (s : State) : Answer :=
  match i with
  | .constructM mode => acceptConstructM mode s
  | .constructS mode id => acceptConstructS mode id s
  | .cfgRx => acceptCfgRx s
  | .write id len => acceptWrite id len s
  | .writeReq id => acceptWriteReq id s
  | .writeResp len => acceptWriteResp len s
  | .writeStream len => acceptWriteStream len s
  | .read len => acceptRead len s
  | .readStream len => acceptReadStream len s

/-- Run `k` on the command a word encodes, and refuse while busy or when the word is reserved (R42, R60; U1, U8). -/
def withCommand (word : Word) (s : State) (k : Instr → Answer) : Answer :=
  require (!s.busy) .busy
    (match decode word with
    | .ok i => k i
    | .error why => .refused (.reservedWord why))

/-- The number is one of TXBUF's (R21). -/
def isTxNum (num : BitVec 10) : Bool := decide (0x100 ≤ num.toNat) && decide (num.toNat < 0x200)

/-- The number is one of RXBUF's (R21). -/
def isRxNum (num : BitVec 10) : Bool := decide (0x200 ≤ num.toNat) && decide (num.toNat < 0x300)

/-- `MemWrite(num, 4, v)`: CMD starts a command, TXBUF[i] stores `v[7:0]`, every other register ignores the write
(R21, R36, R45). -/
def hostWrite (num : BitVec 10) (v : Word) (s : State) : Answer :=
  if num = 0x000#10 then withCommand v s fun i => acceptInstr i s
  else if isTxNum num then
    require (!s.busy) .busy (.next { s with mem := Memory.write s.mem num.toNat (v.setWidth 8) })
  else .next s

/-- What a register reads (R21); CMD and every reserved number read 0. -/
def State.readReg (s : State) (num : BitVec 10) : Word :=
  if num = 0x001#10 then s.statusWord
  else if num = 0x002#10 then s.nodeWord
  else if num = 0x003#10 then timingWord
  else if isTxNum num || isRxNum num then (Memory.read s.mem num.toNat).setWidth 32
  else 0#32

/-- `MemRead(num, 4)`: no side effect on the block (R37). A read of RXBUF while the block is busy gets a free byte
(U20; log entry 13). -/
def hostRead (num : BitVec 10) (s : State) : State :=
  if isRxNum num && s.busy then
    { s with rdata := (Config.freeByte s.draws).setWidth 32, draws := s.draws + 1 }
  else { s with rdata := s.readReg num }

/-- The host begins a WAIT (R64). -/
def State.enterWait (s : State) : State := { s with inWait := true }

/-- The host is in no WAIT: it makes another access (log entry 28). -/
def State.leaveWait (s : State) : State := { s with inWait := false }

/-- The host inside a WAIT does `MemRead(0x001, 4)` once; the WAIT is over when BUSY is 0 (R64). A host in no WAIT does
nothing. DESIGN CHOICE: a step makes one such read, after what else happens in it (log entry 28). -/
def State.pollStatus (s : State) : State :=
  if s.inWait then { hostRead 0x001#10 s with inWait := s.busy } else s

/-- What follows an answer that is a next state. -/
def andThen (k : State → State) : Answer → Answer
  | .next s => .next (k s)
  | .fault f => .fault f
  | .refused r => .refused r

/-- One act of the host or of the environment. `shift` takes a byte out of the transmit path at any time, under an
override too (DESIGN CHOICE, log entry 29). -/
def deliver (x : Stimulus) (s : State) : Answer :=
  match x with
  | .write num v => hostWrite num v s.leaveWait
  | .read num => .next (hostRead num s.leaveWait)
  | .wait => .next s.enterWait
  | .run => .next (advance s)
  | .arrive b => .next { s with rxQueue := s.rxQueue ++ [b] }
  | .rxBecomes q => .next { s with rxQueue := q }
  | .shift => .next { s with txPending := s.txPending.tail }
  | .reset => .next s.hardReset

end Sys2Proof.Machine
end

