-- ==== Sys2Proof/Machine/Dispatch.lean ====
section
/-! DEFINITION. One arm per command. -/

namespace Sys2Proof.Machine

def exec (i : Instr) (s : State) : Host.Outcome State Fault Refusal :=
  match i with
  | .constructM mode => Sys2Proof.Machine.execConstructM mode s
  | .constructS mode id => Sys2Proof.Machine.execConstructS mode id s
  | .cfgRx => Sys2Proof.Machine.execCfgRx s
  | .write id len => Sys2Proof.Machine.execWrite id len s
  | .writeReq id => Sys2Proof.Machine.execWriteReq id s
  | .writeResp len => Sys2Proof.Machine.execWriteResp len s
  | .writeStream len => Sys2Proof.Machine.execWriteStream len s
  | .read len => Sys2Proof.Machine.execRead len s
  | .readStream len => Sys2Proof.Machine.execReadStream len s

end Sys2Proof.Machine
end

