-- ==== Sys2Proof/Machine/Step.lean ====
section
/-! DEFINITION. One step of the machine. Nothing is fetched (R30): the next thing that happens is the first entry of
`inputs`; when none is left the block moves by itself, and at rest it waits in Idle (R141). -/

namespace Sys2Proof.Machine

/-- One step: a synchronous call of a command, after which the host is in WAIT (R64), an act of the host or the
environment, or a move of the block; then the read of STATUS of a host in WAIT. -/
def step (s : State) : Host.Outcome State Fault Refusal :=
  match s.inputs with
  | [] => .next (advance s).pollStatus
  | .command word :: rest =>
    andThen (fun t => t.enterWait.pollStatus)
      (withCommand word { s with inputs := rest } fun i => exec i { s with inputs := rest })
  | .other x :: rest => andThen State.pollStatus (deliver x { s with inputs := rest })

/-- `s` with the word, numbered as the opcode table numbers it, as the command line that comes next (log entry 2). -/
def State.withFetchWord (s : State) (nbits w : Nat) : State :=
  { s with inputs := .command (BitVec.ofNat 32 (tableWord nbits w)) :: s.inputs }

end Sys2Proof.Machine
end

