-- ==== Sys2Proof/Machine/Pins.lean ====
section
/-! DEFINITION. Views of the state and the trace that nothing reads back: the output pins of R32, the bit order of
R35, the TX stream of R30 (b), and the time spent in `Delay` events (R153). -/

namespace Sys2Proof.Machine

/-- The output pins of the pin binding, as they stand before the block's next move (R32; log entry 20). -/
structure Pins where
  txOvrEn : Bool
  /-- the level while the override is on; none while the transport owns the line -/
  txOvrLevel : Option Bool
  xcvrCtrl : Bool
  /-- `tx_data` while `tx_valid` is 1 -/
  txData : Option Byte
  rxPop : Bool
  /-- `xport_baud` while `xport_cfg` is 1 -/
  xportBaud : Option Nat
  regRdata : Word
  deriving DecidableEq, Repr

/-- The level of the transmit line while the block drives it (R20, R32). -/
def TxOvr.level : TxOvr → Option Bool
  | .release => none
  | .dominant => some Config.dominantLevel
  | .recessive => some (!Config.dominantLevel)

/-- The level of the control line (R20, R32). -/
def PowerMode.level : PowerMode → Bool
  | .normal => Config.ctrlNormalLevel
  | .sleep => !Config.ctrlNormalLevel

/-- What the next action hands to the transport: a byte, or the baud rate (R32). -/
def Act.offers (a : Act) (s : State) : Option Byte × Option Nat :=
  match a with
  | .txByte src => (some (s.source src), none)
  | .xportConfig => (none, some Config.baud)
  | .ctrlLine _ => (none, none)
  | .txOverride _ => (none, none)
  | .delay _ => (none, none)
  | .markConfigured => (none, none)
  | .markConstructed => (none, none)
  | .goto _ => (none, none)
  | .copyPayload => (none, none)
  | .spoilPayload => (none, none)
  | .ret _ => (none, none)

/-- What the block's next move hands to the transport: nothing while the timer runs (R22, R32). -/
def State.offers (s : State) : Option Byte × Option Nat :=
  if s.timer ≠ 0#16 then (none, none)
  else
    match s.plan with
    | .stop => (none, none)
    | .act a _ => a.offers s
    | .poll _ _ => (none, none)
    | .take _ _ => (none, none)
    | .judge _ _ => (none, none)

/-- The next move takes a byte from the transport (R32). -/
def State.pops (s : State) : Bool :=
  s.timer == 0#16 && !s.rxQueue.isEmpty &&
    match s.plan with
    | .stop => false
    | .act _ _ => false
    | .poll _ _ => false
    | .take _ _ => true
    | .judge _ _ => false

/-- The output pins of a state (R32). -/
def State.pins (s : State) : Pins where
  txOvrEn := s.txovr != .release
  txOvrLevel := s.txovr.level
  xcvrCtrl := s.ctrl.level
  txData := s.offers.1
  rxPop := s.pops
  xportBaud := s.offers.2
  regRdata := s.rdata

/-- A byte as the transport sends it: bit 0 first (R35). -/
def wireBits (b : Byte) : List Bool := (List.range 8).map b.getLsbD

/-- The byte an event hands to the transport, if it is a `TxByte`. -/
def Event.sent : Event → Option Byte
  | .txByte b => some b
  | _ => none

/-- The byte an event takes from the transport, if it is an `RxByte`. -/
def Event.taken : Event → Option Byte
  | .rxByte b => some b
  | _ => none

/-- The TX stream: the bytes handed to the transport, in order (R30 b). -/
def txStream (t : List Event) : List Byte := t.filterMap Event.sent

/-- The bytes taken from the transport, in order (R30 c). -/
def rxTaken (t : List Event) : List Byte := t.filterMap Event.taken

/-- The time units an event waits. -/
def Event.waits : Event → Nat
  | .delay t => t.toNat
  | _ => 0

/-- The time units spent in `Delay` events (R153). -/
def delayTotal (t : List Event) : Nat := (t.map Event.waits).sum

/-- The event is bus activity, for which the transceiver must be in Normal (R9, R137): driving the transmit line,
handing over or taking a byte, or the poll. -/
def Event.isBus : Event → Bool
  | .ctrlLine _ => false
  | .txOverride _ => true
  | .delay _ => false
  | .txByte _ => true
  | .rxAvail _ => true
  | .rxByte _ => true
  | .xportConfig _ => false

end Sys2Proof.Machine
end

