-- ==== Sys2Proof/Safety.lean ====
section
/-! DEFINITION. What counts as a sound state and a safe run, in the terms the statements use: the conditions under which
a command executes, the shape of a rule in progress, the invariant of the machine, and the timing of a trace. -/

namespace Sys2Proof.Machine

/-- The conditions of every command but the two construct commands (R42, R118 a). -/
abbrev Ready (s : State) : Prop := s.seq = .idle ∧ s.constructed = true

/-- The conditions of the two read commands (R42, R117, R118 a). -/
abbrev ReadyToRead (s : State) : Prop := Ready s ∧ s.rxConfigured = true

/-- The conditions of the two construct commands (R42, R118 a). -/
abbrev Fresh (s : State) : Prop := s.seq = .idle ∧ s.constructed = false

/-- The preconditions of each command (R61, R117, R118), `seq` = Idle apart. -/
def allowed (s : State) : Instr → Bool
  | .constructM mode => !s.constructed && mode
  | .constructS mode _ => !s.constructed && mode
  | .cfgRx => s.constructed
  | .write _ len => s.constructed && payloadOk len
  | .writeReq _ => s.constructed
  | .writeResp len => s.constructed && payloadOk len
  | .writeStream _ => s.constructed
  | .read len => s.constructed && s.rxConfigured && payloadOk len
  | .readStream _ => s.constructed && s.rxConfigured

/-- A rule in progress, with the override now at `o`, is one the block can have: it comes to its return, nothing follows
the return, the override is released there, and no byte goes to or comes from the transport while the line is overridden
(R20, R46, R72). -/
def Plan.ok : Plan → TxOvr → Bool
  | .stop, o => o == .release
  | .act a next, o =>
    match a with
    | .ret _ => next == .stop && next.ok o
    | .goto q => q != .idle && next != .stop && next.ok o
    | .txOverride v => next != .stop && next.ok v
    | .txByte _ => o == .release && next != .stop && next.ok o
    | .ctrlLine _ => next != .stop && next.ok o
    | .delay _ => next != .stop && next.ok o
    | .xportConfig => next != .stop && next.ok o
    | .markConfigured => next != .stop && next.ok o
    | .markConstructed => next != .stop && next.ok o
    | .copyPayload => next != .stop && next.ok o
    | .spoilPayload => next != .stop && next.ok o
  | .poll empty avail, o => o == .release && empty != .stop && avail != .stop && empty.ok o && avail.ok o
  | .take _ next, o => o == .release && next != .stop && next.ok o
  | .judge bad good, o => bad != .stop && good != .stop && bad.ok o && good.ok o

/-- The control line is not driven any more (R77). -/
def Plan.noCtrl : Plan → Bool
  | .stop => true
  | .act a next =>
    (match a with
      | .ctrlLine _ => false
      | _ => true) && next.noCtrl
  | .poll empty avail => empty.noCtrl && avail.noCtrl
  | .take _ next => next.noCtrl
  | .judge bad good => bad.noCtrl && good.noCtrl

/-- Every bus activity still to come finds the transceiver in Normal, if it is in `m` now (R9, R137). -/
def Plan.powered : Plan → PowerMode → Bool
  | .stop, _ => true
  | .act a next, m =>
    match a with
    | .ctrlLine m' => next.powered m'
    | .txOverride _ => m == .normal && next.powered m
    | .txByte _ => m == .normal && next.powered m
    | .delay _ => next.powered m
    | .xportConfig => next.powered m
    | .markConfigured => next.powered m
    | .markConstructed => next.powered m
    | .goto _ => next.powered m
    | .copyPayload => next.powered m
    | .spoilPayload => next.powered m
    | .ret _ => next.powered m
  | .poll empty avail, m => m == .normal && empty.powered m && avail.powered m
  | .take _ next, m => m == .normal && next.powered m
  | .judge bad good, m => bad.powered m && good.powered m

/-- The invariant of the machine: true at reset and kept by every step. -/
structure State.Inv (s : State) : Prop where
  /-- the buffers are in canonical form -/
  memWf : Memory.wf s.mem = true
  /-- nothing outside the two buffers is listed (R21) -/
  memRange : Memory.inBuffers s.mem = true
  /-- BUSY exactly while a command is in progress (R16, R19) -/
  idle : s.seq = .idle ↔ s.plan = .stop
  /-- the rule in progress is sound; at rest `txovr` is Release (R20, R24) -/
  plan : s.plan.ok s.txovr = true
  /-- at rest the timer is 0 (R24) -/
  timer : s.seq = .idle → s.timer = 0#16
  /-- DONE only at rest (R19) -/
  done : s.done = true → s.seq = .idle
  /-- `xcvr` mirrors the control line (R12) -/
  mirror : s.xcvr = s.ctrl
  /-- with power control disabled the line is never driven and `xcvr` keeps its reset value (R12, R77) -/
  unpowered : s.pwrCtrlEn = false → s.xcvr = .sleep ∧ s.plan.noCtrl = true
  /-- with power control enabled every bus activity to come finds the transceiver in Normal (R137) -/
  powered : s.pwrCtrlEn = true → s.plan.powered s.xcvr = true

/-- The timing invariants of R78 on a trace: each move of the control line is followed by its settle delay before
anything else, and each dominant hold lasts at least the break and is followed by its recessive delimiter. -/
def timed : List Event → Bool
  | [] => true
  | .ctrlLine _ :: .delay t :: rest => decide (20 ≤ t.toNat) && timed rest
  | .ctrlLine _ :: _ => false
  | .txOverride .dominant :: .delay t :: .txOverride .recessive :: .delay u :: .txOverride .release :: rest =>
    decide (1248 ≤ t.toNat) && decide (96 ≤ u.toNat) && timed rest
  | .txOverride _ :: _ => false
  | .delay _ :: rest => timed rest
  | .txByte _ :: rest => timed rest
  | .rxAvail _ :: rest => timed rest
  | .rxByte _ :: rest => timed rest
  | .xportConfig _ :: rest => timed rest

/-- Every bus activity of a trace happens with the transceiver in Normal, if it is in `m` when the trace begins
(R9 "Normal required for any bus activity", R137). -/
def busInNormal : PowerMode → List Event → Bool
  | _, [] => true
  | m, e :: rest =>
    match e with
    | .ctrlLine m' => busInNormal m' rest
    | _ => (!e.isBus || m == .normal) && busInNormal m rest

end Sys2Proof.Machine
end

