-- ==== Sys2Proof/Certificates/Slice0/Obligations.lean ====
section
/-! DEFINITION. The statements for the provers. Each docstring names the rule of spec/ it comes from, and the log entry or
the decision D<n> of 92_eei_decisions.md where a clause rests on a choice. -/

namespace Sys2Proof.Spec

open Sys2Proof.Machine

/-- The events of `EnterNormal()` (R74). -/
def upTrace (pwr : Bool) : List Event := if pwr then [.ctrlLine .normal, .delay 20#16] else []

/-- The events of `EnterSleep()` (R75). -/
def downTrace (pwr : Bool) : List Event := if pwr then [.ctrlLine .sleep, .delay 20#16] else []

/-- The events of `EmitBreak()` (R72). -/
def breakTrace : List Event :=
  [.txOverride .dominant, .delay 1248#16, .txOverride .recessive, .delay 96#16, .txOverride .release]

/-- One `TxByte` for each byte. -/
def sends (bs : List Byte) : List Event := bs.map .txByte

/-- One `RxByte` for each byte. -/
def takes (bs : List Byte) : List Event := bs.map .rxByte

/-- What the transport still has to shift out after a bracketed command that handed over `bs` (log entry 10). -/
def pendingAfter (s : State) (bs : List Byte) : List Byte :=
  if s.pwrCtrlEn && s.txDrain then [] else s.txPending ++ bs

/-- `s` after a write or read command with the operands `id` and `len` that had the events `body` between the two ends
of its power bracket, handed over `bs` and returned `r`; every field not named is that of `s`. `plan`, the operand latches
the command does not use, at 0, and WIN, emptied, are the model's choices (log entries 1, 8, 18), and so are `txPending`
(log entry 10, under a break 29) and the RX queue, which the block only takes bytes from (log entries 3, 26). -/
def returned (s : State) (id len : Byte) (r : Result) (body : List Event) (bs : List Byte) : State :=
  { s with
    opId := id, opLen := len, opMode := false, win := [], done := true, result := r, seq := .idle, plan := .stop,
    timer := 0#16, xcvr := if s.pwrCtrlEn then .sleep else s.xcvr, ctrl := if s.pwrCtrlEn then .sleep else s.ctrl,
    txPending := pendingAfter s bs, trace := s.trace ++ upTrace s.pwrCtrlEn ++ body ++ downTrace s.pwrCtrlEn }

/-- `s` after a read command that found data, took all of it, `q`, and waits for more with `p` before it: BUSY, in
Reading, the transceiver in Normal (R108). `plan`, the unused latches at 0, WIN emptied at the acceptance, `txPending` and
the queue are the model's choices (log entries 1, 8, 18, 10, 3 and 26). -/
def waiting (s : State) (len : Byte) (p : Plan) (q : List Byte) : State :=
  { s with
    opId := 0#8, opLen := len, opMode := false, win := [], done := false, seq := .reading, plan := p,
    timer := 0#16, xcvr := if s.pwrCtrlEn then .normal else s.xcvr, ctrl := if s.pwrCtrlEn then .normal else s.ctrl,
    rxQueue := [], trace := s.trace ++ upTrace s.pwrCtrlEn ++ [.rxAvail true] ++ takes q }

/-- The buffers `m` hold `bs` from address `a` on and are `m₀` everywhere else. -/
def RowOver (m m₀ : List Host.Cell) (a : Nat) (bs : List Byte) : Prop :=
  (∀ (i : Nat) (h : i < bs.length), Memory.read m (a + i) = bs[i]) ∧
  ∀ x : Nat, x < a ∨ a + bs.length ≤ x → Memory.read m x = Memory.read m₀ x

/-- The window `w` of a READ of size `n` passes both checks against `ident` (R87, R89). -/
def Passes (ident : Byte) (w : List Byte) (n : Nat) : Prop :=
  w[1]? = some ident ∧ w[n + 2]? = some (cks ((w.drop 2).take n))

/-- The time units spent in `Delay` events by a command that returns (R153). -/
def duration (pwr : Bool) (i : Instr) : Nat :=
  let settle := if pwr then 20 else 0
  match i with
  | .constructM _ => 200
  | .constructS _ _ => 200 + settle
  | .cfgRx => 0
  | .write _ _ => settle + 1248 + 96 + settle
  | .writeReq _ => settle + 1248 + 96 + settle
  | .writeResp _ => settle + settle
  | .writeStream _ => settle + 1248 + 96 + settle
  | .read _ => settle + settle
  | .readStream _ => settle + settle

/-- The four write commands. -/
def isWrite (i : Instr) : Prop :=
  (∃ id len, i = .write id len) ∨ (∃ id, i = .writeReq id) ∨ (∃ len, i = .writeResp len) ∨ ∃ len, i = .writeStream len

/-- The two read commands, of size `n`. -/
def isRead (i : Instr) (n : Byte) : Prop := i = .read n ∨ i = .readStream n

end Sys2Proof.Spec

open Sys2Proof Sys2Proof.Machine Sys2Proof.Spec

/-! ### Encoding -/

/-- R55, R57, R59, R63 (decision D4): no operand bit is dropped, for every command and every operand value. -/
def Obligations.DecodeOfEncode : Prop := ∀ i : Instr, decode (encode i) = .ok i

/-- R55, R56, R60 (decision D4): a word that decodes is the one word of its command, so unused fields are 0. -/
def Obligations.EncodeOfDecode : Prop := ∀ (w : Word) (i : Instr), decode w = .ok i → encode i = w

/-- R59, R60 (decision D4): the decoder by fields accepts exactly the words of R59's mask and match columns, each as a
command of its row. -/
def Obligations.DecodeAcceptsTheTable : Prop :=
  ∀ w : Word,
    (∀ i : Instr, decode w = .ok i → i.row ∈ rows ∧ i.row.hits w = true) ∧
    (∀ r ∈ rows, r.hits w = true → ∃ i : Instr, decode w = .ok i ∧ i.row = r)

/-- 95_test_vectors.md Y1, Y2, Y6, W1, W6, W10, W14, R9, X19, X2: words of R59's encodings (decision D4). -/
def Obligations.SpecWordsDecode : Prop :=
  decode 0x01000001#32 = .ok (.constructM true) ∧ decode 0x01001002#32 = .ok (.constructS true 0x10#8) ∧
  decode 0x00000003#32 = .ok .cfgRx ∧ decode 0x00031010#32 = .ok (.write 0x10#8 3#8) ∧
  decode 0x00001011#32 = .ok (.writeReq 0x10#8) ∧ decode 0x00020012#32 = .ok (.writeResp 2#8) ∧
  decode 0x000C0013#32 = .ok (.writeStream 12#8) ∧ decode 0x00030020#32 = .ok (.read 3#8) ∧
  decode 0x00FF0021#32 = .ok (.readStream 255#8) ∧ decode 0x00000030#32 = .error .opcode

/-! ### Step, acceptance, refusal -/

/-- R64, R141 (log entry 2): the step on a command line runs the decoded command on the state without that input; if it is
refused, so is the step, and if it answers a next state, the step answers that state with STATUS as the host's last read
and the host still in WAIT exactly if BUSY is 1. With nothing to come the block moves by itself, and a host in WAIT reads
STATUS after the move (log entry 28). -/
def Obligations.StepRunsDecodedCommand : Prop :=
  (∀ (s : State) (word : Word) (rest : List Input) (i : Instr),
    s.inputs = .command word :: rest → decode word = .ok i →
    (∀ t, exec i { s with inputs := rest } = .next t →
      step s = .next { t with rdata := t.statusWord, inWait := t.seq != .idle }) ∧
    (∀ r, exec i { s with inputs := rest } = .refused r → step s = .refused r)) ∧
  (∀ s : State, s.inputs = [] → s.inWait = false → (advance s).inWait = false ∧ step s = .next (advance s)) ∧
  ∀ s : State, s.inputs = [] → s.inWait = true →
    step s = .next { advance s with rdata := (advance s).statusWord, inWait := (advance s).seq != .idle }

/-- R60 (decision D18): a word of no row of R59's table is refused in Idle, by a command line and by a write of CMD. -/
def Obligations.ReservedWordRefused : Prop :=
  ∀ (s : State) (word : Word) (rest : List Input), s.seq = .idle → (∀ r ∈ rows, r.hits word = false) →
    (s.inputs = .command word :: rest → ∃ why, step s = .refused (.reservedWord why)) ∧
    ∃ why, hostWrite 0x000#10 word s = .refused (.reservedWord why)

/-- R61, R117, R118, R129 (3) (decisions D9, D10, D13, D14, D18): a command has a next state exactly in Idle with its
preconditions, and is refused before any step otherwise. -/
def Obligations.CommandRunsExactlyWhenAllowed : Prop :=
  ∀ (i : Instr) (s : State),
    ((∃ t, exec i s = .next t) ↔ s.seq = .idle ∧ allowed s i = true) ∧
    (¬ (s.seq = .idle ∧ allowed s i = true) → ∃ r, exec i s = .refused r)

/-- R42, R45 (U1): while BUSY, every command, every write of CMD and every write of TXBUF is refused. -/
def Obligations.BusyBlockRefusesCommands : Prop :=
  ∀ s : State, s.seq ≠ .idle →
    (∀ i : Instr, exec i s = .refused .busy) ∧
    (∀ (num : BitVec 10) (v : Word), num = 0x000#10 ∨ (0x100 ≤ num.toNat ∧ num.toNat < 0x200) →
      hostWrite num v s = .refused .busy)

/-- R61, R117, R118 (decisions D9, D10, D13, D14; U4 to U7): the name of each refusal in Idle: what a construct command
answers with MODE = 0 or on a constructed block, what every other command answers before construction, what the reads
answer before CFG_RX, and what WRITE, WRITE_RESP and READ answer with LEN above 8. -/
def Obligations.RefusalsAreNamed : Prop :=
  ∀ (s : State) (mode : Bool) (id len : Byte), s.seq = .idle →
    (s.constructed = false →
      exec (.constructM false) s = .refused .modeFalse ∧ exec (.constructS false id) s = .refused .modeFalse ∧
      exec .cfgRx s = .refused .notConstructed ∧ exec (.write id len) s = .refused .notConstructed ∧
      exec (.writeReq id) s = .refused .notConstructed ∧ exec (.writeResp len) s = .refused .notConstructed ∧
      exec (.writeStream len) s = .refused .notConstructed ∧ exec (.read len) s = .refused .notConstructed ∧
      exec (.readStream len) s = .refused .notConstructed) ∧
    (s.constructed = true →
      exec (.constructM mode) s = .refused .alreadyConstructed ∧
      exec (.constructS mode id) s = .refused .alreadyConstructed) ∧
    (s.constructed = true → s.rxConfigured = false →
      exec (.read len) s = .refused .rxNotConfigured ∧ exec (.readStream len) s = .refused .rxNotConfigured) ∧
    (s.constructed = true → 8 < len.toNat →
      exec (.write id len) s = .refused .payloadTooLong ∧ exec (.writeResp len) s = .refused .payloadTooLong ∧
      (s.rxConfigured = true → exec (.read len) s = .refused .payloadTooLong))

/-! ### Reset and the invariant -/

/-- R140: the values the spec gives for reset, field by field. `role`, `ident`, the operand latches and the buffer bytes,
which R140 leaves unspecified, are not stated. -/
def Obligations.ResetValues : Prop :=
  let s := State.reset
  s.xcvr = .sleep ∧ s.constructed = false ∧ s.rxConfigured = false ∧ s.seq = .idle ∧ s.statusWord = 0#32 ∧
  s.ctrl = .sleep ∧ s.txovr = .release ∧ (s.nodeWord.extractLsb' 9 23 = 0#23) ∧ timingWord = 0xC8140D60#32 ∧
  s.timer = 0#16 ∧ s.trace = [] ∧ s.xport = none

/-- R140, R142 (decision D8, log entry 14): `rst` at any moment gives the block its reset values and no event, abandons
the command in progress, and leaves the RX queue and the static inputs as they are. -/
def Obligations.ResetInputAbandonsTheCommand : Prop :=
  ∀ (s : State) (rest : List Input), s.inputs = .other .reset :: rest →
    ∃ t, step s = .next t ∧ t.xcvr = .sleep ∧ t.constructed = false ∧ t.rxConfigured = false ∧ t.seq = .idle ∧
      t.plan = .stop ∧ t.statusWord = 0#32 ∧ t.ctrl = .sleep ∧ t.txovr = .release ∧ t.timer = 0#16 ∧ t.xport = none ∧
      t.trace = s.trace ∧ t.rxQueue = s.rxQueue ∧ t.pwrCtrlEn = s.pwrCtrlEn ∧ t.txDrain = s.txDrain ∧ t.inputs = rest

/-- R12, R16, R19, R20, R24, R77, R137: the invariant holds at reset. -/
def Obligations.ResetMeetsInv : Prop := State.reset.Inv

/-- R12, R16, R19, R20, R24, R77, R137: every step, of the block, the host or the environment, keeps the invariant. -/
def Obligations.StepKeepsInv : Prop := ∀ s t : State, s.Inv → step s = .next t → t.Inv

/-- R10, R11, R118, R24: once `constructed` = 1, no step but a reset changes `role`, `ident` or `constructed`. -/
def Obligations.IdentityIsImmutable : Prop :=
  ∀ s t : State, s.constructed = true → s.inputs.head? ≠ some (.other .reset) → step s = .next t →
    t.role = s.role ∧ t.ident = s.ident ∧ t.constructed = true

/-- R77 (decision D6) and R5: no step writes the static inputs. -/
def Obligations.StaticInputsNeverChange : Prop :=
  ∀ s t : State, step s = .next t → t.pwrCtrlEn = s.pwrCtrlEn ∧ t.txDrain = s.txDrain

/-- R7, R40: the trace only grows at its end; an event once made stays. -/
def Obligations.TraceOnlyGrows : Prop :=
  ∀ s t : State, step s = .next t → ∃ evs, t.trace = s.trace ++ evs

/-- R9, R137 ("Normal required for any bus activity"): with power control enabled, every bus event of every step from a
sound state happens with the transceiver in Normal. -/
def Obligations.BusActivityOnlyInNormal : Prop :=
  ∀ s t : State, s.Inv → s.pwrCtrlEn = true → step s = .next t →
    ∃ evs, t.trace = s.trace ++ evs ∧ busInNormal s.xcvr evs = true

/-- R12, R77: with power control disabled no command drives the control line or writes `xcvr`. -/
def Obligations.DisabledPowerControlDrivesNothing : Prop :=
  ∀ (i : Instr) (s t : State), s.pwrCtrlEn = false → exec i s = .next t →
    t.xcvr = s.xcvr ∧ t.ctrl = s.ctrl ∧ ∃ evs, t.trace = s.trace ++ evs ∧ ∀ m, Event.ctrlLine m ∉ evs

/-- R78 (decision D20 for the exactness of a delay): the events of every command keep the timing invariants. -/
def Obligations.CommandsKeepTiming : Prop :=
  ∀ (i : Instr) (s t : State), exec i s = .next t → ∃ evs, t.trace = s.trace ++ evs ∧ timed evs = true

/-- R153: the time units a command that has returned spent in `Delay` events. -/
def Obligations.CommandDurations : Prop :=
  ∀ (i : Instr) (s t : State), exec i s = .next t → t.seq = .idle →
    ∃ evs, t.trace = s.trace ++ evs ∧ delayTotal evs = duration s.pwrCtrlEn i

/-- R16, R45, R107 (decision D1): a command started by a write of CMD and then left to the sequencer, one action or one tick
a step, reaches the very state of `exec`, of a host that is in no WAIT. -/
def Obligations.SequencerReachesTheCall : Prop :=
  ∀ (word : Word) (i : Instr) (s t : State), s.inputs = [] → decode word = .ok i → exec i s = .next t →
    ∃ n, Host.Core.run core n { s with inputs := [.other (.write 0x000#10 word)] } = .next { t with inWait := false }

/-- R107: of the read state machine the rows Poll to NoData, Poll to Reading, the taking of one byte in Reading, Reading
to Valid and Reading to Invalid of a READ, and PowerDown to Idle, one move of the block each, once the timer has run out.
Not stated here: Idle to PowerUp, PowerUp to Poll, Reading to Valid of a READ_STREAM, and the rows into PowerDown. That
the return writes RESULT together with DONE is the model's reading of R19 and R130 (log entry 27, DEDUCED), where R107
lists RESULT on the row into PowerDown. -/
def Obligations.ReadStateMachine : Prop :=
  ∀ (s : State) (p p' : Plan) (d : RxDest) (r : Result), s.timer = 0#16 →
    (s.plan = .poll p p' → s.rxQueue = [] →
      advance s = { s with seq := .noData, plan := p, trace := s.trace ++ [.rxAvail false] }) ∧
    (s.plan = .poll p p' → s.rxQueue ≠ [] →
      advance s = { s with seq := .reading, plan := p', trace := s.trace ++ [.rxAvail true] }) ∧
    (s.plan = .take d p → ∀ b q, s.rxQueue = b :: q →
      (advance s).rxQueue = q ∧ (advance s).seq = s.seq ∧ (advance s).plan = p ∧
      (advance s).trace = s.trace ++ [.rxByte b]) ∧
    (s.plan = .judge p p' → Passes s.ident s.win s.opLen.toNat → advance s = { s with seq := .valid, plan := p' }) ∧
    (s.plan = .judge p p' → ¬ Passes s.ident s.win s.opLen.toNat → advance s = { s with seq := .invalid, plan := p }) ∧
    (s.plan = .act (.ret (some r)) .stop →
      advance s = { s with seq := .idle, result := r, done := true, plan := .stop })

/-- R22: while the timer is not zero the sequencer does not advance, the timer counts down by one and no event happens;
`Delay(t)` loads it with `t`. -/
def Obligations.TimerHoldsTheSequencer : Prop :=
  ∀ s : State,
    (s.timer ≠ 0#16 → advance s = { s with timer := s.timer - 1#16 } ∧ (advance s).timer.toNat + 1 = s.timer.toNat) ∧
    (∀ (t : BitVec 16) (p : Plan), s.timer = 0#16 → s.plan = .act (.delay t) p →
      advance s = { s with timer := t, plan := p, trace := s.trace ++ [.delay t] })

/-- R108, R147: a read that waits for a byte stays as it is while the queue is empty, for any number of moves. -/
def Obligations.WaitingReadStays : Prop :=
  ∀ (s : State) (d : RxDest) (p : Plan) (n : Nat), s.timer = 0#16 → s.plan = .take d p → s.rxQueue = [] →
    advance^[n] s = s

/-! ### Arithmetic and the internal operations -/

/-- R85, whole: the formula for every byte list, its corner cases, and that every byte is a checksum. -/
def Obligations.ChecksumFormula : Prop :=
  (∀ p : List Byte, (cks p).toNat = 255 - ((p.map BitVec.toNat).sum + 1) % 256) ∧
  (∀ p : List Byte, cks p = ~~~ (BitVec.ofNat 8 ((p.map BitVec.toNat).sum + 1))) ∧
  cks [] = 0xFE#8 ∧
  (∀ p : List Byte, (p.map BitVec.toNat).sum % 256 = 254 → cks p = 0#8) ∧
  (∀ p : List Byte, (p.map BitVec.toNat).sum % 256 = 255 → cks p = 255#8) ∧
  (∀ b : Byte, ∃ p, cks p = b) ∧ cks [0x01#8, 0x02#8, 0x03#8] = 0xF8#8

/-- R86 (a), (b), (c), (e), (f): the two parses and three forms agree, only the sum mod 256 matters, neither the order of
the bytes nor an appended zero byte does, and a list with its checksum sums to 254 mod 256. -/
def Obligations.ChecksumLaws : Prop :=
  (∀ p : List Byte, ((cks p).toNat : Int) = (255 - (((p.map BitVec.toNat).sum : Int) + 1)) % 256) ∧
  (∀ p : List Byte, ((cks p).toNat : Int) = (254 - ((p.map BitVec.toNat).sum : Int)) % 256) ∧
  (∀ p : List Byte, cks p = ~~~ (p.foldl (· + ·) 0#8 + 1#8)) ∧
  (∀ p q : List Byte, p.Perm q → cks p = cks q) ∧
  (∀ p : List Byte, cks (p ++ [0#8]) = cks p) ∧
  ∀ p : List Byte, ((p.map BitVec.toNat).sum + (cks p).toNat) % 256 = 254

/-- R87, whole: the check compares all eight bits of the trailing byte with the checksum of positions 2 to n+1; the first
two positions never enter; for n = 0 the trailing byte must be 254. -/
def Obligations.WindowChecksum : Prop :=
  (∀ (a b c : Byte) (p : List Byte), cksOK ([a, b] ++ p ++ [c]) p.length = true ↔ cks p = c) ∧
  (∀ a b c : Byte, cksOK [a, b, c] 0 = true ↔ c = 254#8) ∧
  cksOK [0x55#8, 0x10#8, 0xAA#8, 0x54#8] 1 = true

/-- R89: the match is equality of two bytes, all eight bits, whatever `ident` is. -/
def Obligations.IdentifierMatch : Prop :=
  (∀ ident b : Byte, idOK ident b = true ↔ ∀ k, b.getLsbD k = ident.getLsbD k) ∧
  idOK 0x10#8 0x10#8 = true ∧ idOK 0x10#8 0x11#8 = false ∧ idOK 0x10#8 0x50#8 = false

/-- R70 (decision D25 for the widths): exact, linear, 0 for 0, at most 24480. -/
def Obligations.BreakDurationExact : Prop :=
  (∀ bits : Byte, (breakDuration bits).toNat = bits.toNat * 96) ∧
  (∀ a b : Byte, a.toNat + b.toNat < 256 →
    (breakDuration (a + b)).toNat = (breakDuration a).toNat + (breakDuration b).toNat) ∧
  (∀ bits : Byte, (breakDuration bits).toNat ≤ 24480) ∧ breakDuration 13#8 = 1248#16

/-- R74, R75, R72: what the power controller and the break-signal timer do, from every state and before any rule. That they
leave the RX queue, and `txPending` but for the drain before Sleep, is the model's choice (log entries 3, 10, 29). -/
def Obligations.PowerAndBreakOperations : Prop :=
  ∀ (s : State) (k : Plan),
    (Plan.after (enterNormal true) k).run s =
      k.run { s with ctrl := .normal, xcvr := .normal, timer := 0#16, trace := s.trace ++ [.ctrlLine .normal, .delay 20#16] } ∧
    (Plan.after (enterSleep true) k).run s =
      k.run { s with
        ctrl := .sleep, xcvr := .sleep, timer := 0#16, trace := s.trace ++ [.ctrlLine .sleep, .delay 20#16],
        txPending := if s.txDrain then [] else s.txPending } ∧
    (Plan.after (enterNormal false) k).run s = k.run s ∧ (Plan.after (enterSleep false) k).run s = k.run s ∧
    (Plan.after emitBreak k).run s = k.run { s with txovr := .release, timer := 0#16, trace := s.trace ++ breakTrace }

/-- R44, whole: on Success exactly the bytes WIN[2 .. n+1] are copied, unchanged, to RXBUF[0 .. n-1]; WIN[0], WIN[1] and
WIN[n+2] are not copied. -/
def Obligations.WindowToBuffer : Prop :=
  ∀ s : State, Memory.wf s.mem = true → s.win.length = s.opLen.toNat + 3 →
    (∀ (i : Byte) (h : i.toNat + 2 < s.win.length), i.toNat < s.opLen.toNat →
      s.copyPayload.rxbuf i = s.win[i.toNat + 2]) ∧
    (∀ i : Byte, s.opLen.toNat ≤ i.toNat → s.copyPayload.rxbuf i = s.rxbuf i) ∧
    ∀ i : Byte, s.copyPayload.txbuf i = s.txbuf i

/-! ### System commands -/

/-- R115 (decisions D9, D10; log entries 1, 8 and 18 for `plan`, the unused latches and WIN): CONSTRUCT_M with MODE = 1 on a block
not yet constructed; everything not named is unchanged, `ident` and RESULT among it. -/
def Obligations.ConstructMasterResult : Prop :=
  ∀ s : State, Fresh s →
    exec (.constructM true) s = .next { s with
      role := .master, constructed := true, opId := 0#8, opLen := 0#8, opMode := true, win := [], done := true,
      seq := .idle, plan := .stop, timer := 0#16, trace := s.trace ++ [.delay 200#16] }

/-- R116 (decisions D9, D10; log entries 1, 8 and 18 for `plan`, the unused latches and WIN): CONSTRUCT_S with MODE = 1 and
any identifier; the transceiver is left in Normal if power control is enabled. That the RX queue and `txPending` stay is the
model's choice (log entries 3, 10, 26). -/
def Obligations.ConstructSlaveResult : Prop :=
  ∀ (s : State) (id : Byte), Fresh s →
    exec (.constructS true id) s = .next { s with
      role := .slave, ident := id, constructed := true, opId := id, opLen := 0#8, opMode := true, win := [],
      done := true, seq := .idle, plan := .stop, timer := 0#16,
      xcvr := if s.pwrCtrlEn then .normal else s.xcvr, ctrl := if s.pwrCtrlEn then .normal else s.ctrl,
      trace := s.trace ++ [.delay 200#16] ++ upTrace s.pwrCtrlEn }

/-- R117 (decision D13): CFG_RX prepares the transport for 10417 baud and sets `rx_configured`, as often as it is issued.
The model's choices in the next state: `plan`, the unused latches and WIN (log entries 1, 8, 18), and that the RX queue and
`txPending` stay, which R117 and N11 leave open (log entries 3, 26, 30). -/
def Obligations.ConfigureReceiveResult : Prop :=
  ∀ s : State, Ready s →
    exec .cfgRx s = .next { s with
      rxConfigured := true, xport := some 10417, opId := 0#8, opLen := 0#8, opMode := false, win := [], done := true,
      seq := .idle, plan := .stop, timer := 0#16, trace := s.trace ++ [.xportConfig 10417] }

/-! ### Write commands -/

/-- R95: WRITE of 0 to 8 payload bytes. The model's choices in the next
state are those of `returned` (log entries 1, 3, 8, 10, 18, 26, 29). -/
def Obligations.WriteResult : Prop :=
  ∀ (s : State) (id len : Byte), Ready s → len.toNat ≤ 8 →
    let p := s.payload len.toNat
    let bs := [0x55#8, id] ++ p ++ [cks p]
    exec (.write id len) s = .next { returned s id len .success (breakTrace ++ sends bs) bs with txovr := .release }

/-- R96: WRITE_REQ, from either role. The model's choices in the next
state are those of `returned` (log entries 1, 3, 8, 10, 18, 26, 29). -/
def Obligations.WriteRequestResult : Prop :=
  ∀ (s : State) (id : Byte), Ready s →
    let bs := [0x55#8, id]
    exec (.writeReq id) s = .next { returned s id 0#8 .success (breakTrace ++ sends bs) bs with txovr := .release }

/-- R97: WRITE_RESP of 0 to 8 payload bytes: no break, `txovr` untouched. The model's choices in the next state are those
of `returned` (log entries 1, 3, 8, 10, 18, 26). -/
def Obligations.WriteResponseResult : Prop :=
  ∀ (s : State) (len : Byte), Ready s → len.toNat ≤ 8 →
    let p := s.payload len.toNat
    let bs := p ++ [cks p]
    exec (.writeResp len) s = .next (returned s 0#8 len .success (sends bs) bs)

/-- R98 (C1): WRITE_STREAM of 0 to 255 bytes: the break, then the bytes verbatim. The model's choices in the next state
are those of `returned` (log entries 1, 3, 8, 10, 18, 26, 29). -/
def Obligations.WriteStreamResult : Prop :=
  ∀ (s : State) (len : Byte), Ready s →
    let bs := s.payload len.toNat
    exec (.writeStream len) s = .next { returned s 0#8 len .success (breakTrace ++ sends bs) bs with txovr := .release }

/-- R33, R95 to R99: what the write commands leave: every byte of both buffers, the identity, the flags of the system
commands, the RX queue, which the block does not touch (what the environment does meanwhile is an input of its own: log
entries 3 and 26), and the transport's configuration. -/
def Obligations.WritesFrame : Prop :=
  ∀ (i : Instr) (s t : State), isWrite i → exec i s = .next t →
    (∀ a, Memory.read t.mem a = Memory.read s.mem a) ∧ t.role = s.role ∧ t.ident = s.ident ∧
    t.constructed = s.constructed ∧ t.rxConfigured = s.rxConfigured ∧ t.rdata = s.rdata ∧ t.inWait = s.inWait ∧ t.rxQueue = s.rxQueue ∧
    t.xport = s.xport ∧ t.draws = s.draws ∧ t.pwrCtrlEn = s.pwrCtrlEn ∧ t.txDrain = s.txDrain ∧ t.inputs = s.inputs

/-- R51: a WRITE_REQ followed by a WRITE_RESP hands over the bytes of one WRITE. -/
def Obligations.RequestAndResponseMakeAFrame : Prop :=
  ∀ (s t₁ t₂ t : State) (id len : Byte), exec (.writeReq id) s = .next t₁ → exec (.writeResp len) t₁ = .next t₂ →
    exec (.write id len) s = .next t → txStream t₂.trace = txStream t.trace

/-- R98: a WRITE_STREAM of sync, identifier, payload and checksum has the events of the WRITE. -/
def Obligations.StreamCanSpellAFrame : Prop :=
  ∀ (s s' t t' : State) (id len : Byte), s'.pwrCtrlEn = s.pwrCtrlEn → len.toNat ≤ 8 →
    s'.payload (len.toNat + 3) = [0x55#8, id] ++ s.payload len.toNat ++ [cks (s.payload len.toNat)] →
    exec (.write id len) s = .next t → exec (.writeStream (len + 3#8)) s' = .next t' →
    ∃ evs, t.trace = s.trace ++ evs ∧ t'.trace = s'.trace ++ evs

/-! ### Read commands -/

/-- R105, R106, R109 (a): no data at the poll: NoData, no byte of RXBUF written, nothing consumed. The model's choices in
the next state: `plan`, the unused latches and WIN (log entries 1, 8, 18), and `txPending`, emptied if power control and
the drain parameter are on and unchanged otherwise (log entry 10). -/
def Obligations.ReadWithoutData : Prop :=
  ∀ (s : State) (n : Byte), ReadyToRead s → s.rxQueue = [] →
    (n.toNat ≤ 8 → exec (.read n) s = .next (returned s 0#8 n .noData [.rxAvail false] [])) ∧
    exec (.readStream n) s = .next (returned s 0#8 n .noData [.rxAvail false] [])

/-- R105, R44: a window that passes both checks: Success, the payload in RXBUF[0 .. n-1], exactly n + 3 bytes taken. The
model's choices in the next state: `plan`, the unused latches and WIN, which keeps the window (log entries 1, 8, 18), and
`txPending`, emptied if power control and the drain parameter are on and unchanged otherwise (log entry 10). -/
def Obligations.ReadAcceptsAWindow : Prop :=
  ∀ (s : State) (n : Byte) (w q : List Byte), ReadyToRead s → n.toNat ≤ 8 → Memory.wf s.mem = true →
    s.rxQueue = w ++ q → w.length = n.toNat + 3 → Passes s.ident w n.toNat →
    ∃ m, exec (.read n) s = .next { returned s 0#8 n .success (.rxAvail true :: takes w) [] with
        rxQueue := q, win := w, mem := m } ∧
      RowOver m s.mem 0x200 ((w.drop 2).take n.toNat)

/-- R105, R90 (a), R127: a window that fails a check, either of the two: ValidationFailed, n + 3 bytes taken, RXBUF[0 ..
n-1] n fresh free values (U2, log entry 4), every other byte of the buffers unchanged (decision D15). The model's choices
in the next state: `plan`, the unused latches and WIN, which keeps the window (log entries 1, 8, 18), and `txPending`,
emptied if power control and the drain parameter are on and unchanged otherwise (log entry 10). -/
def Obligations.ReadRejectsAWindow : Prop :=
  ∀ (s : State) (n : Byte) (w q : List Byte), ReadyToRead s → n.toNat ≤ 8 → Memory.wf s.mem = true →
    s.rxQueue = w ++ q → w.length = n.toNat + 3 → ¬ Passes s.ident w n.toNat →
    ∃ m, exec (.read n) s = .next { returned s 0#8 n .validationFailed (.rxAvail true :: takes w) [] with
        rxQueue := q, win := w, mem := m, draws := s.draws + n.toNat } ∧
      RowOver m s.mem 0x200 ((List.range n.toNat).map fun i => Config.freeByte (s.draws + i))

/-- R106: data at the poll and n bytes in the queue: Success, the n bytes verbatim in RXBUF[0 .. n-1]; n = 0 takes
nothing. The model's choices in the next state: `plan`, the unused latches and WIN, emptied (log entries 1, 8, 18), and
`txPending`, emptied if power control and the drain parameter are on and unchanged otherwise (log entry 10). -/
def Obligations.ReadStreamCopies : Prop :=
  ∀ (s : State) (n : Byte) (bs q : List Byte), ReadyToRead s → Memory.wf s.mem = true → s.rxQueue = bs ++ q →
    s.rxQueue ≠ [] → bs.length = n.toNat →
    ∃ m, exec (.readStream n) s = .next { returned s 0#8 n .success (.rxAvail true :: takes bs) [] with
        rxQueue := q, mem := m } ∧
      RowOver m s.mem 0x200 bs

/-- R108, R147: data at the poll but too few bytes: the bytes there are are taken and the command waits in Reading,
BUSY, the transceiver in Normal; a framed read has them in WIN, a stream read in RXBUF. The model's choices in the next
state: `plan` and the unused latches (log entries 1, 8), WIN emptied at the acceptance, so empty in the stream read (log
entry 18), and `txPending` unchanged (log entry 10). -/
def Obligations.ReadWaitsForBytes : Prop :=
  ∀ (s : State) (n : Byte), ReadyToRead s → Memory.wf s.mem = true → s.rxQueue ≠ [] →
    (n.toNat ≤ 8 → s.rxQueue.length < n.toNat + 3 →
      ∃ p, exec (.read n) s = .next { waiting s n (.take .window p) s.rxQueue with win := s.rxQueue }) ∧
    (s.rxQueue.length < n.toNat →
      ∃ p m, exec (.readStream n) s =
          .next { waiting s n (.take (.rxbuf (BitVec.ofNat 8 s.rxQueue.length)) p) s.rxQueue with mem := m } ∧
        RowOver m s.mem 0x200 s.rxQueue)

/-- R108 (vector R14): when the bytes come does not matter: a read that found some of them and goes on when the others
arrive ends in the state of the read that found them all. -/
def Obligations.ReadResumes : Prop :=
  ∀ (i : Instr) (n : Byte) (s t : State) (w w' : List Byte), isRead i n → w ≠ [] →
    exec i { s with rxQueue := w } = .next t →
    exec i { s with rxQueue := w ++ w' } = .next (t.plan.run { t with rxQueue := t.rxQueue ++ w' })

/-- R18, R33, R105, R106 (decision D15): what the read commands leave, returned or waiting: every byte of the buffers but
RXBUF[0 .. n-1], the identity, the flags of the system commands, the override and the transport's configuration. -/
def Obligations.ReadsFrame : Prop :=
  ∀ (i : Instr) (n : Byte) (s t : State), isRead i n → exec i s = .next t →
    (∀ a, a < 0x200 ∨ 0x200 + n.toNat ≤ a → Memory.read t.mem a = Memory.read s.mem a) ∧ t.role = s.role ∧
    t.ident = s.ident ∧ t.constructed = s.constructed ∧ t.rxConfigured = s.rxConfigured ∧ t.rdata = s.rdata ∧ t.inWait = s.inWait ∧
    t.txovr = s.txovr ∧ t.xport = s.xport ∧ t.pwrCtrlEn = s.pwrCtrlEn ∧ t.txDrain = s.txDrain ∧ t.inputs = s.inputs

/-- R88 (marked by the spec as derived from R85, R87, R89, R105): what a WRITE hands over, taken as the window of a READ
of the same size, has a right checksum, and by a node whose `ident` is the identifier gives Success and the writer's
payload in the reader's RXBUF. -/
def Obligations.WriteThenReadRoundTrip : Prop :=
  ∀ (a a' b : State) (id n : Byte) (bs q : List Byte), exec (.write id n) a = .next a' →
    txStream a'.trace = txStream a.trace ++ bs → ReadyToRead b → b.ident = id → Memory.wf b.mem = true →
    b.rxQueue = bs ++ q →
    cksOK bs n.toNat = true ∧
    ∃ b', exec (.read n) b = .next b' ∧ b'.seq = .idle ∧ b'.result = .success ∧ b'.rxQueue = q ∧
      ∀ i : Byte, i.toNat < n.toNat → b'.rxbuf i = a.txbuf i

/-- R24, R76 (decision D11 for the reads): a write or read command that has returned leaves, with power control enabled,
the transceiver in Sleep, on every path. -/
def Obligations.ReturnedCommandsSleep : Prop :=
  ∀ (i : Instr) (s t : State), (isWrite i ∨ ∃ n, isRead i n) → exec i s = .next t → t.seq = .idle →
    s.pwrCtrlEn = true → t.xcvr = .sleep ∧ t.ctrl = .sleep

/-! ### The host port -/

/-- R21, R45: a byte written to TXBUF[i] in Idle is read back zero-extended; every other byte of the buffers reads as
before, and nothing but the buffer changes. -/
def Obligations.TxbufWriteIsReadBack : Prop :=
  ∀ (s : State) (num : BitVec 10) (v : Word), s.seq = .idle → Memory.wf s.mem = true → 0x100 ≤ num.toNat →
    num.toNat < 0x200 →
    ∃ m, hostWrite num v s = .next { s with mem := m } ∧
      (hostRead num { s with mem := m }).rdata = v &&& 0xFF#32 ∧
      ∀ a, a ≠ num.toNat → Memory.read m a = Memory.read s.mem a

/-- R21, R36 (decisions D3, D22): CMD and every reserved number read 0; every register but CMD and TXBUF ignores writes,
at any time. -/
def Obligations.ReservedAndReadOnlyRegisters : Prop :=
  ∀ (s : State) (num : BitVec 10) (v : Word),
    ((num = 0#10 ∨ (4 ≤ num.toNat ∧ num.toNat < 0x100) ∨ 0x300 ≤ num.toNat) → (hostRead num s).rdata = 0#32) ∧
    (num ≠ 0#10 → ¬ (0x100 ≤ num.toNat ∧ num.toNat < 0x200) → hostWrite num v s = .next s)

/-- R19, R126 (decision D5): the fields of STATUS, read through register 0x001, and nothing above them. -/
def Obligations.StatusFields : Prop :=
  ∀ s : State,
    let w := (hostRead 0x001#10 s).rdata
    w.getLsbD 0 = (s.seq != .idle) ∧ w.getLsbD 1 = s.done ∧
    (w.extractLsb' 2 2 = match s.result with | .noData => 0b00#2 | .success => 0b01#2 | .validationFailed => 0b11#2) ∧
    w.getLsbD 4 = (s.xcvr == .normal) ∧ w.getLsbD 5 = s.rxConfigured ∧ w.getLsbD 6 = s.constructed ∧
    w.extractLsb' 7 25 = 0#25

/-- R21 (decision D3): the fields of NODE, the constant TIMING, and the bytes of the buffers, zero-extended; RXBUF while
no command runs. -/
def Obligations.NodeTimingAndBuffersRead : Prop :=
  ∀ s : State,
    (let w := (hostRead 0x002#10 s).rdata
     w.extractLsb' 0 8 = s.ident ∧ w.getLsbD 8 = (s.role == .slave) ∧ w.extractLsb' 9 23 = 0#23) ∧
    (hostRead 0x003#10 s).rdata = 0xC8140D60#32 ∧
    (∀ num : BitVec 10, 0x100 ≤ num.toNat → num.toNat < 0x200 →
      (hostRead num s).rdata.toNat = (Memory.read s.mem num.toNat).toNat) ∧
    ∀ num : BitVec 10, 0x200 ≤ num.toNat → num.toNat < 0x300 → s.seq = .idle →
      (hostRead num s).rdata.toNat = (Memory.read s.mem num.toNat).toNat

/-- R37: a host read changes nothing of the block: only what the host got, and, for RXBUF while BUSY, the count of free
values (log entry 13). -/
def Obligations.HostReadsHaveNoSideEffect : Prop :=
  ∀ (s : State) (num : BitVec 10),
    ∃ v d, hostRead num s = { s with rdata := v, draws := d } ∧
      (s.seq = .idle ∨ ¬ (0x200 ≤ num.toNat ∧ num.toNat < 0x300) → d = s.draws)

/-- R20, R31, R32 (decisions D2, D7, log entry 20): the output pins before a move of the block: `tx_data`, `rx_pop` and
`xport_baud` show exactly the transport event of that move, and the two lines show `txovr` and `ctrl` at the levels of
D7. -/
def Obligations.PinsShowTheNextEvent : Prop :=
  ∀ s : State,
    (∀ b, s.pins.txData = some b ↔ (advance s).trace = s.trace ++ [.txByte b]) ∧
    (∀ r, s.pins.xportBaud = some r ↔ (advance s).trace = s.trace ++ [.xportConfig r]) ∧
    (s.pins.rxPop = true ↔ ∃ b, (advance s).trace = s.trace ++ [.rxByte b]) ∧
    (s.pins.txOvrEn = false ↔ s.txovr = .release) ∧ (s.pins.txOvrLevel = some false ↔ s.txovr = .dominant) ∧
    (s.pins.txOvrLevel = some true ↔ s.txovr = .recessive) ∧ (s.pins.xcvrCtrl = true ↔ s.ctrl = .normal)

/-- R33, R115 to R117: what the system commands leave: every byte of both buffers, RESULT, the override; CONSTRUCT_M and
CFG_RX the transceiver as well, CFG_RX the identity, the construct commands `rx_configured` and the transport's
configuration. That the RX queue and the bytes in the transmit path stay is the model's choice, since R117 and N11 leave
open what CFG_RX does inside the transport (log entry 30) and what the environment does is an input of its own (log
entries 3, 10, 26). -/
def Obligations.SystemCommandsFrame : Prop :=
  ∀ (i : Instr) (s t : State), ((∃ m, i = .constructM m) ∨ (∃ m id, i = .constructS m id) ∨ i = .cfgRx) →
    exec i s = .next t →
    (∀ a, Memory.read t.mem a = Memory.read s.mem a) ∧ t.result = s.result ∧ t.txovr = s.txovr ∧
    t.rxQueue = s.rxQueue ∧ t.txPending = s.txPending ∧ t.rdata = s.rdata ∧ t.inWait = s.inWait ∧ t.draws = s.draws ∧
    t.pwrCtrlEn = s.pwrCtrlEn ∧ t.txDrain = s.txDrain ∧ t.inputs = s.inputs ∧
    ((∃ m id, i = .constructS m id) ∨ (t.xcvr = s.xcvr ∧ t.ctrl = s.ctrl ∧ t.ident = s.ident)) ∧
    (i = .cfgRx ∧ t.role = s.role ∧ t.constructed = s.constructed ∨
      i ≠ .cfgRx ∧ t.rxConfigured = s.rxConfigured ∧ t.xport = s.xport)

/-- R64 (decisions D1, D24): a command line is a write of CMD and a WAIT: with these two inputs in its place, one action or
one tick a step, the machine reaches the very state of the command line's step, STATUS as the host's last read, and the
WAIT over exactly if BUSY is 0. -/
def Obligations.CommandLineIsWriteAndWait : Prop :=
  ∀ (word : Word) (s t : State), s.inputs = [.command word] → step s = .next t →
    t.rdata = t.statusWord ∧ (t.inWait = true ↔ t.seq ≠ .idle) ∧
    ∃ n, Host.Core.run core n { s with inputs := [.other (.write 0x000#10 word), .other .wait] } = .next t

/-- R64 (log entry 28 for one read a step, and for an access of the host outside its WAIT, which ends it): after any act of
the host or the environment, a host in WAIT reads STATUS, and its WAIT is over exactly if BUSY is 0; a host in no WAIT reads
nothing; the input `wait` begins a WAIT, and a read or write of the host ends one. -/
def Obligations.WaitReadsStatus : Prop :=
  (∀ (s t : State) (x : Stimulus) (rest : List Input), s.inputs = .other x :: rest →
    deliver x { s with inputs := rest } = .next t →
    (t.inWait = true → step s = .next { t with rdata := t.statusWord, inWait := t.seq != .idle }) ∧
    (t.inWait = false → step s = .next t)) ∧
  (∀ s : State, deliver .wait s = .next { s with inWait := true }) ∧
  (∀ (s t : State) (num : BitVec 10), deliver (.read num) s = .next t → t.inWait = false) ∧
  ∀ (s t : State) (num : BitVec 10) (v : Word), deliver (.write num v) s = .next t → t.inWait = false
end

