-- ==== Sys2Proof/Laws/Memory.lean ====
section
/-! SUPPORT. The laws of the buffers: a write is read back, leaves every other byte alone, and keeps the canonical form
and the range; equal reads make equal memories. -/

namespace Sys2Proof.Machine

theorem Memory.risesFrom_mono {lo lo' : Nat} (h : lo ≤ lo') :
    ∀ {m : List Host.Cell}, Memory.risesFrom lo' m = true → Memory.risesFrom lo m = true
  | [], _ => rfl
  | (k, v) :: rest, hm => by
    simp only [Memory.risesFrom, Bool.and_eq_true, decide_eq_true_eq] at hm ⊢
    exact ⟨⟨by omega, hm.1.2⟩, hm.2⟩

theorem Memory.read_below {lo a : Nat} (h : a < lo) :
    ∀ {m : List Host.Cell}, Memory.risesFrom lo m = true → Memory.read m a = Memory.unlisted
  | [], _ => rfl
  | (k, v) :: rest, hm => by
    simp only [Memory.risesFrom, Bool.and_eq_true, decide_eq_true_eq] at hm
    rw [Memory.read, if_neg (by omega)]
    exact Memory.read_below (by omega) hm.2

theorem Memory.read_put_ne {a x : Nat} (h : a ≠ x) (v : Byte) (m : List Host.Cell) :
    Memory.read (Memory.put a v m) x = Memory.read m x := by
  unfold Memory.put
  split
  · rfl
  · simp [Memory.read, h]

theorem Memory.read_put_same {lo a : Nat} (h : a < lo) (v : Byte) {m : List Host.Cell}
    (hm : Memory.risesFrom lo m = true) : Memory.read (Memory.put a v m) a = v := by
  unfold Memory.put
  split
  next hv => rw [Memory.read_below h hm, hv]
  · simp [Memory.read]

/-- A write leaves every other byte alone. -/
theorem Memory.read_write_ne {a x : Nat} (h : a ≠ x) (v : Byte) :
    ∀ m : List Host.Cell, Memory.read (Memory.write m a v) x = Memory.read m x
  | [] => Memory.read_put_ne h v []
  | (k, b) :: rest => by
    unfold Memory.write
    split
    · exact Memory.read_put_ne h v _
    split
    next hk =>
      rw [Memory.read_put_ne h, Memory.read, if_neg (by omega)]
    · simp only [Memory.read, Memory.read_write_ne h v rest]

/-- A write is read back. -/
theorem Memory.read_write_same {a : Nat} (v : Byte) :
    ∀ {lo : Nat} {m : List Host.Cell}, Memory.risesFrom lo m = true → Memory.read (Memory.write m a v) a = v
  | _, [], _ => Memory.read_put_same (Nat.lt_succ_self a) v rfl
  | lo, (k, b) :: rest, hm => by
    have hm' := hm
    simp only [Memory.risesFrom, Bool.and_eq_true, decide_eq_true_eq] at hm'
    unfold Memory.write
    split
    next hlt =>
      refine Memory.read_put_same (Nat.lt_succ_self a) v ?_
      simp only [Memory.risesFrom, Bool.and_eq_true, decide_eq_true_eq]
      exact ⟨⟨by omega, hm'.1.2⟩, hm'.2⟩
    split
    next hk => subst hk; exact Memory.read_put_same (Nat.lt_succ_self a) v hm'.2
    next hne => rw [Memory.read, if_neg (by omega)]; exact Memory.read_write_same v hm'.2

theorem Memory.risesFrom_put {lo a : Nat} (h : lo ≤ a) (v : Byte) {m : List Host.Cell}
    (hm : Memory.risesFrom (a + 1) m = true) : Memory.risesFrom lo (Memory.put a v m) = true := by
  unfold Memory.put
  split
  · exact Memory.risesFrom_mono (by omega) hm
  next hv => simp [Memory.risesFrom, h, hv, hm]

theorem Memory.risesFrom_write {a : Nat} (v : Byte) :
    ∀ {lo : Nat} {m : List Host.Cell}, lo ≤ a → Memory.risesFrom lo m = true →
      Memory.risesFrom lo (Memory.write m a v) = true
  | _, [], h, _ => Memory.risesFrom_put h v rfl
  | lo, (k, b) :: rest, h, hm => by
    have hm' := hm
    simp only [Memory.risesFrom, Bool.and_eq_true, decide_eq_true_eq] at hm'
    unfold Memory.write
    split
    next hlt =>
      refine Memory.risesFrom_put h v ?_
      simp only [Memory.risesFrom, Bool.and_eq_true, decide_eq_true_eq]
      exact ⟨⟨by omega, hm'.1.2⟩, hm'.2⟩
    split
    next hk => subst hk; exact Memory.risesFrom_put h v hm'.2
    next hne =>
      simp only [Memory.risesFrom, Bool.and_eq_true, decide_eq_true_eq]
      exact ⟨hm'.1, Memory.risesFrom_write v (by omega) hm'.2⟩

/-- A write keeps the canonical form. -/
theorem Memory.wf_write {m : List Host.Cell} (a : Nat) (v : Byte) (hm : Memory.wf m = true) :
    Memory.wf (Memory.write m a v) = true := Memory.risesFrom_write v (Nat.zero_le a) hm

theorem Memory.wf_writeBytes :
    ∀ (vs : List Byte) {m : List Host.Cell} (a : Nat), Memory.wf m = true → Memory.wf (Memory.writeBytes m a vs) = true
  | [], _, _, hm => hm
  | v :: vs, _, a, hm => Memory.wf_writeBytes vs (a + 1) (Memory.wf_write a v hm)

theorem Memory.inBuffers_put {a : Nat} (v : Byte) {m : List Host.Cell} (h : 0x100 ≤ a) (h' : a < 0x300)
    (hm : Memory.inBuffers m = true) : Memory.inBuffers (Memory.put a v m) = true := by
  unfold Memory.put
  split
  · exact hm
  · simp only [Memory.inBuffers, List.all_cons, Bool.and_eq_true, decide_eq_true_eq] at hm ⊢
    exact ⟨⟨h, h'⟩, hm⟩

/-- A write to a buffer lists nothing outside the buffers. -/
theorem Memory.inBuffers_write {a : Nat} (v : Byte) (h : 0x100 ≤ a) (h' : a < 0x300) :
    ∀ {m : List Host.Cell}, Memory.inBuffers m = true → Memory.inBuffers (Memory.write m a v) = true
  | [], hm => Memory.inBuffers_put v h h' hm
  | (k, b) :: rest, hm => by
    have hr : Memory.inBuffers rest = true := by
      simp only [Memory.inBuffers, List.all_cons, Bool.and_eq_true] at hm ⊢; exact hm.2
    unfold Memory.write
    split
    · exact Memory.inBuffers_put v h h' hm
    split
    · exact Memory.inBuffers_put v h h' hr
    · have := Memory.inBuffers_write v h h' hr
      simp only [Memory.inBuffers, List.all_cons, Bool.and_eq_true] at hm this ⊢
      exact ⟨hm.1, this⟩

theorem Memory.inBuffers_writeBytes :
    ∀ (vs : List Byte) {m : List Host.Cell} (a : Nat), 0x100 ≤ a → a + vs.length ≤ 0x300 →
      Memory.inBuffers m = true → Memory.inBuffers (Memory.writeBytes m a vs) = true
  | [], _, _, _, _, hm => hm
  | v :: vs, _, a, h, h', hm => by
    rw [List.length_cons] at h'
    exact Memory.inBuffers_writeBytes vs (a + 1) (by omega) (by omega) (Memory.inBuffers_write v h (by omega) hm)

/-- Writing bytes in a row leaves every byte outside the row alone. -/
theorem Memory.read_writeBytes_outside :
    ∀ (vs : List Byte) (m : List Host.Cell) (a x : Nat), x < a ∨ a + vs.length ≤ x →
      Memory.read (Memory.writeBytes m a vs) x = Memory.read m x
  | [], _, _, _, _ => rfl
  | v :: vs, m, a, x, h => by
    rw [List.length_cons] at h
    rw [Memory.writeBytes, Memory.read_writeBytes_outside vs _ (a + 1) x (by omega), Memory.read_write_ne (by omega)]

/-- Bytes written in a row are read back in index order. -/
theorem Memory.read_writeBytes_inside :
    ∀ (vs : List Byte) {m : List Host.Cell} (a i : Nat) (h : i < vs.length), Memory.wf m = true →
      Memory.read (Memory.writeBytes m a vs) (a + i) = vs[i]
  | v :: vs, m, a, 0, _, hm => by
    rw [Memory.writeBytes, Memory.read_writeBytes_outside vs _ (a + 1) (a + 0) (by omega)]
    exact Memory.read_write_same v hm
  | v :: vs, m, a, i + 1, h, hm => by
    have := Memory.read_writeBytes_inside vs (a + 1) i (by simpa using h) (Memory.wf_write a v hm)
    rw [Memory.writeBytes, List.getElem_cons_succ, ← this]
    congr 1
    omega

/-- Two memories in canonical form that read alike are equal. -/
theorem Memory.ext_of_risesFrom :
    ∀ {lo : Nat} {m m' : List Host.Cell}, Memory.risesFrom lo m = true → Memory.risesFrom lo m' = true →
      (∀ a, Memory.read m a = Memory.read m' a) → m = m'
  | _, [], [], _, _, _ => rfl
  | _, [], (k, v) :: _, _, hm', h => by
    simp only [Memory.risesFrom, Bool.and_eq_true, decide_eq_true_eq] at hm'
    exact absurd (by simpa [Memory.read] using (h k).symm) hm'.1.2
  | _, (k, v) :: _, [], hm, _, h => by
    simp only [Memory.risesFrom, Bool.and_eq_true, decide_eq_true_eq] at hm
    exact absurd (by simpa [Memory.read] using h k) hm.1.2
  | lo, (k, v) :: r, (k', v') :: r', hm, hm', h => by
    simp only [Memory.risesFrom, Bool.and_eq_true, decide_eq_true_eq] at hm hm'
    have hk : k = k' := by
      rcases Nat.lt_trichotomy k k' with hlt | heq | hgt
      · have := h k
        rw [Memory.read, if_pos rfl, Memory.read, if_neg (by omega), Memory.read_below (by omega) hm'.2] at this
        exact absurd this hm.1.2
      · exact heq
      · have := (h k').symm
        rw [Memory.read, if_pos rfl, Memory.read, if_neg (by omega), Memory.read_below (by omega) hm.2] at this
        exact absurd this hm'.1.2
    subst hk
    have hv : v = v' := by simpa [Memory.read] using h k
    subst hv
    congr 1
    refine Memory.ext_of_risesFrom hm.2 hm'.2 fun a => ?_
    by_cases ha : k = a
    · subst ha
      rw [Memory.read_below (Nat.lt_succ_self k) hm.2, Memory.read_below (Nat.lt_succ_self k) hm'.2]
    · simpa [Memory.read, ha] using h a

theorem txAddr_range (i : Byte) : 0x100 ≤ txAddr i ∧ txAddr i < 0x200 := by
  have := i.isLt
  unfold txAddr
  omega

theorem rxAddr_range (i : Byte) : 0x200 ≤ rxAddr i ∧ rxAddr i < 0x300 := by
  have := i.isLt
  unfold rxAddr
  omega

end Sys2Proof.Machine
end

