-- ==== Sys2Proof/Laws/State.lean ====
section
/-! SUPPORT. One lemma per field per update of the state: what each named operation leaves in each field. -/

namespace Sys2Proof.Machine

/-! ### emit -/

@[simp] theorem State.emit_role (s : State) (e : Event) : (s.emit e).role = s.role := rfl
@[simp] theorem State.emit_ident (s : State) (e : Event) : (s.emit e).ident = s.ident := rfl
@[simp] theorem State.emit_xcvr (s : State) (e : Event) : (s.emit e).xcvr = s.xcvr := rfl
@[simp] theorem State.emit_constructed (s : State) (e : Event) : (s.emit e).constructed = s.constructed := rfl
@[simp] theorem State.emit_rxConfigured (s : State) (e : Event) : (s.emit e).rxConfigured = s.rxConfigured := rfl
@[simp] theorem State.emit_seq (s : State) (e : Event) : (s.emit e).seq = s.seq := rfl
@[simp] theorem State.emit_opId (s : State) (e : Event) : (s.emit e).opId = s.opId := rfl
@[simp] theorem State.emit_opLen (s : State) (e : Event) : (s.emit e).opLen = s.opLen := rfl
@[simp] theorem State.emit_opMode (s : State) (e : Event) : (s.emit e).opMode = s.opMode := rfl
@[simp] theorem State.emit_mem (s : State) (e : Event) : (s.emit e).mem = s.mem := rfl
@[simp] theorem State.emit_win (s : State) (e : Event) : (s.emit e).win = s.win := rfl
@[simp] theorem State.emit_done (s : State) (e : Event) : (s.emit e).done = s.done := rfl
@[simp] theorem State.emit_result (s : State) (e : Event) : (s.emit e).result = s.result := rfl
@[simp] theorem State.emit_ctrl (s : State) (e : Event) : (s.emit e).ctrl = s.ctrl := rfl
@[simp] theorem State.emit_txovr (s : State) (e : Event) : (s.emit e).txovr = s.txovr := rfl
@[simp] theorem State.emit_timer (s : State) (e : Event) : (s.emit e).timer = s.timer := rfl
@[simp] theorem State.emit_pwrCtrlEn (s : State) (e : Event) : (s.emit e).pwrCtrlEn = s.pwrCtrlEn := rfl
@[simp] theorem State.emit_txDrain (s : State) (e : Event) : (s.emit e).txDrain = s.txDrain := rfl
@[simp] theorem State.emit_rdata (s : State) (e : Event) : (s.emit e).rdata = s.rdata := rfl
@[simp] theorem State.emit_inWait (s : State) (e : Event) : (s.emit e).inWait = s.inWait := rfl
@[simp] theorem State.emit_rxQueue (s : State) (e : Event) : (s.emit e).rxQueue = s.rxQueue := rfl
@[simp] theorem State.emit_xport (s : State) (e : Event) : (s.emit e).xport = s.xport := rfl
@[simp] theorem State.emit_txPending (s : State) (e : Event) : (s.emit e).txPending = s.txPending := rfl
@[simp] theorem State.emit_plan (s : State) (e : Event) : (s.emit e).plan = s.plan := rfl
@[simp] theorem State.emit_trace (s : State) (e : Event) : (s.emit e).trace = s.trace ++ [e] := rfl
@[simp] theorem State.emit_draws (s : State) (e : Event) : (s.emit e).draws = s.draws := rfl
@[simp] theorem State.emit_inputs (s : State) (e : Event) : (s.emit e).inputs = s.inputs := rfl

/-! ### goto -/

@[simp] theorem State.goto_role (s : State) (q : Seq) : (s.goto q).role = s.role := rfl
@[simp] theorem State.goto_ident (s : State) (q : Seq) : (s.goto q).ident = s.ident := rfl
@[simp] theorem State.goto_xcvr (s : State) (q : Seq) : (s.goto q).xcvr = s.xcvr := rfl
@[simp] theorem State.goto_constructed (s : State) (q : Seq) : (s.goto q).constructed = s.constructed := rfl
@[simp] theorem State.goto_rxConfigured (s : State) (q : Seq) : (s.goto q).rxConfigured = s.rxConfigured := rfl
@[simp] theorem State.goto_seq (s : State) (q : Seq) : (s.goto q).seq = q := rfl
@[simp] theorem State.goto_opId (s : State) (q : Seq) : (s.goto q).opId = s.opId := rfl
@[simp] theorem State.goto_opLen (s : State) (q : Seq) : (s.goto q).opLen = s.opLen := rfl
@[simp] theorem State.goto_opMode (s : State) (q : Seq) : (s.goto q).opMode = s.opMode := rfl
@[simp] theorem State.goto_mem (s : State) (q : Seq) : (s.goto q).mem = s.mem := rfl
@[simp] theorem State.goto_win (s : State) (q : Seq) : (s.goto q).win = s.win := rfl
@[simp] theorem State.goto_done (s : State) (q : Seq) : (s.goto q).done = s.done := rfl
@[simp] theorem State.goto_result (s : State) (q : Seq) : (s.goto q).result = s.result := rfl
@[simp] theorem State.goto_ctrl (s : State) (q : Seq) : (s.goto q).ctrl = s.ctrl := rfl
@[simp] theorem State.goto_txovr (s : State) (q : Seq) : (s.goto q).txovr = s.txovr := rfl
@[simp] theorem State.goto_timer (s : State) (q : Seq) : (s.goto q).timer = s.timer := rfl
@[simp] theorem State.goto_pwrCtrlEn (s : State) (q : Seq) : (s.goto q).pwrCtrlEn = s.pwrCtrlEn := rfl
@[simp] theorem State.goto_txDrain (s : State) (q : Seq) : (s.goto q).txDrain = s.txDrain := rfl
@[simp] theorem State.goto_rdata (s : State) (q : Seq) : (s.goto q).rdata = s.rdata := rfl
@[simp] theorem State.goto_inWait (s : State) (q : Seq) : (s.goto q).inWait = s.inWait := rfl
@[simp] theorem State.goto_rxQueue (s : State) (q : Seq) : (s.goto q).rxQueue = s.rxQueue := rfl
@[simp] theorem State.goto_xport (s : State) (q : Seq) : (s.goto q).xport = s.xport := rfl
@[simp] theorem State.goto_txPending (s : State) (q : Seq) : (s.goto q).txPending = s.txPending := rfl
@[simp] theorem State.goto_plan (s : State) (q : Seq) : (s.goto q).plan = s.plan := rfl
@[simp] theorem State.goto_trace (s : State) (q : Seq) : (s.goto q).trace = s.trace := rfl
@[simp] theorem State.goto_draws (s : State) (q : Seq) : (s.goto q).draws = s.draws := rfl
@[simp] theorem State.goto_inputs (s : State) (q : Seq) : (s.goto q).inputs = s.inputs := rfl

/-! ### elapse -/

@[simp] theorem State.elapse_role (s : State) : (s.elapse).role = s.role := rfl
@[simp] theorem State.elapse_ident (s : State) : (s.elapse).ident = s.ident := rfl
@[simp] theorem State.elapse_xcvr (s : State) : (s.elapse).xcvr = s.xcvr := rfl
@[simp] theorem State.elapse_constructed (s : State) : (s.elapse).constructed = s.constructed := rfl
@[simp] theorem State.elapse_rxConfigured (s : State) : (s.elapse).rxConfigured = s.rxConfigured := rfl
@[simp] theorem State.elapse_seq (s : State) : (s.elapse).seq = s.seq := rfl
@[simp] theorem State.elapse_opId (s : State) : (s.elapse).opId = s.opId := rfl
@[simp] theorem State.elapse_opLen (s : State) : (s.elapse).opLen = s.opLen := rfl
@[simp] theorem State.elapse_opMode (s : State) : (s.elapse).opMode = s.opMode := rfl
@[simp] theorem State.elapse_mem (s : State) : (s.elapse).mem = s.mem := rfl
@[simp] theorem State.elapse_win (s : State) : (s.elapse).win = s.win := rfl
@[simp] theorem State.elapse_done (s : State) : (s.elapse).done = s.done := rfl
@[simp] theorem State.elapse_result (s : State) : (s.elapse).result = s.result := rfl
@[simp] theorem State.elapse_ctrl (s : State) : (s.elapse).ctrl = s.ctrl := rfl
@[simp] theorem State.elapse_txovr (s : State) : (s.elapse).txovr = s.txovr := rfl
@[simp] theorem State.elapse_timer (s : State) : (s.elapse).timer = 0#16 := rfl
@[simp] theorem State.elapse_pwrCtrlEn (s : State) : (s.elapse).pwrCtrlEn = s.pwrCtrlEn := rfl
@[simp] theorem State.elapse_txDrain (s : State) : (s.elapse).txDrain = s.txDrain := rfl
@[simp] theorem State.elapse_rdata (s : State) : (s.elapse).rdata = s.rdata := rfl
@[simp] theorem State.elapse_inWait (s : State) : (s.elapse).inWait = s.inWait := rfl
@[simp] theorem State.elapse_rxQueue (s : State) : (s.elapse).rxQueue = s.rxQueue := rfl
@[simp] theorem State.elapse_xport (s : State) : (s.elapse).xport = s.xport := rfl
@[simp] theorem State.elapse_txPending (s : State) : (s.elapse).txPending = s.txPending := rfl
@[simp] theorem State.elapse_plan (s : State) : (s.elapse).plan = s.plan := rfl
@[simp] theorem State.elapse_trace (s : State) : (s.elapse).trace = s.trace := rfl
@[simp] theorem State.elapse_draws (s : State) : (s.elapse).draws = s.draws := rfl
@[simp] theorem State.elapse_inputs (s : State) : (s.elapse).inputs = s.inputs := rfl

/-! ### startDelay -/

@[simp] theorem State.startDelay_role (s : State) (t : BitVec 16) : (s.startDelay t).role = s.role := rfl
@[simp] theorem State.startDelay_ident (s : State) (t : BitVec 16) : (s.startDelay t).ident = s.ident := rfl
@[simp] theorem State.startDelay_xcvr (s : State) (t : BitVec 16) : (s.startDelay t).xcvr = s.xcvr := rfl
@[simp] theorem State.startDelay_constructed (s : State) (t : BitVec 16) : (s.startDelay t).constructed = s.constructed := rfl
@[simp] theorem State.startDelay_rxConfigured (s : State) (t : BitVec 16) : (s.startDelay t).rxConfigured = s.rxConfigured := rfl
@[simp] theorem State.startDelay_seq (s : State) (t : BitVec 16) : (s.startDelay t).seq = s.seq := rfl
@[simp] theorem State.startDelay_opId (s : State) (t : BitVec 16) : (s.startDelay t).opId = s.opId := rfl
@[simp] theorem State.startDelay_opLen (s : State) (t : BitVec 16) : (s.startDelay t).opLen = s.opLen := rfl
@[simp] theorem State.startDelay_opMode (s : State) (t : BitVec 16) : (s.startDelay t).opMode = s.opMode := rfl
@[simp] theorem State.startDelay_mem (s : State) (t : BitVec 16) : (s.startDelay t).mem = s.mem := rfl
@[simp] theorem State.startDelay_win (s : State) (t : BitVec 16) : (s.startDelay t).win = s.win := rfl
@[simp] theorem State.startDelay_done (s : State) (t : BitVec 16) : (s.startDelay t).done = s.done := rfl
@[simp] theorem State.startDelay_result (s : State) (t : BitVec 16) : (s.startDelay t).result = s.result := rfl
@[simp] theorem State.startDelay_ctrl (s : State) (t : BitVec 16) : (s.startDelay t).ctrl = s.ctrl := rfl
@[simp] theorem State.startDelay_txovr (s : State) (t : BitVec 16) : (s.startDelay t).txovr = s.txovr := rfl
@[simp] theorem State.startDelay_timer (s : State) (t : BitVec 16) : (s.startDelay t).timer = t := rfl
@[simp] theorem State.startDelay_pwrCtrlEn (s : State) (t : BitVec 16) : (s.startDelay t).pwrCtrlEn = s.pwrCtrlEn := rfl
@[simp] theorem State.startDelay_txDrain (s : State) (t : BitVec 16) : (s.startDelay t).txDrain = s.txDrain := rfl
@[simp] theorem State.startDelay_rdata (s : State) (t : BitVec 16) : (s.startDelay t).rdata = s.rdata := rfl
@[simp] theorem State.startDelay_inWait (s : State) (t : BitVec 16) : (s.startDelay t).inWait = s.inWait := rfl
@[simp] theorem State.startDelay_rxQueue (s : State) (t : BitVec 16) : (s.startDelay t).rxQueue = s.rxQueue := rfl
@[simp] theorem State.startDelay_xport (s : State) (t : BitVec 16) : (s.startDelay t).xport = s.xport := rfl
@[simp] theorem State.startDelay_txPending (s : State) (t : BitVec 16) : (s.startDelay t).txPending = s.txPending := rfl
@[simp] theorem State.startDelay_plan (s : State) (t : BitVec 16) : (s.startDelay t).plan = s.plan := rfl
@[simp] theorem State.startDelay_trace (s : State) (t : BitVec 16) : (s.startDelay t).trace = s.trace ++ [.delay t] := rfl
@[simp] theorem State.startDelay_draws (s : State) (t : BitVec 16) : (s.startDelay t).draws = s.draws := rfl
@[simp] theorem State.startDelay_inputs (s : State) (t : BitVec 16) : (s.startDelay t).inputs = s.inputs := rfl

/-! ### tick -/

@[simp] theorem State.tick_role (s : State) : (s.tick).role = s.role := rfl
@[simp] theorem State.tick_ident (s : State) : (s.tick).ident = s.ident := rfl
@[simp] theorem State.tick_xcvr (s : State) : (s.tick).xcvr = s.xcvr := rfl
@[simp] theorem State.tick_constructed (s : State) : (s.tick).constructed = s.constructed := rfl
@[simp] theorem State.tick_rxConfigured (s : State) : (s.tick).rxConfigured = s.rxConfigured := rfl
@[simp] theorem State.tick_seq (s : State) : (s.tick).seq = s.seq := rfl
@[simp] theorem State.tick_opId (s : State) : (s.tick).opId = s.opId := rfl
@[simp] theorem State.tick_opLen (s : State) : (s.tick).opLen = s.opLen := rfl
@[simp] theorem State.tick_opMode (s : State) : (s.tick).opMode = s.opMode := rfl
@[simp] theorem State.tick_mem (s : State) : (s.tick).mem = s.mem := rfl
@[simp] theorem State.tick_win (s : State) : (s.tick).win = s.win := rfl
@[simp] theorem State.tick_done (s : State) : (s.tick).done = s.done := rfl
@[simp] theorem State.tick_result (s : State) : (s.tick).result = s.result := rfl
@[simp] theorem State.tick_ctrl (s : State) : (s.tick).ctrl = s.ctrl := rfl
@[simp] theorem State.tick_txovr (s : State) : (s.tick).txovr = s.txovr := rfl
@[simp] theorem State.tick_timer (s : State) : (s.tick).timer = s.timer - 1#16 := rfl
@[simp] theorem State.tick_pwrCtrlEn (s : State) : (s.tick).pwrCtrlEn = s.pwrCtrlEn := rfl
@[simp] theorem State.tick_txDrain (s : State) : (s.tick).txDrain = s.txDrain := rfl
@[simp] theorem State.tick_rdata (s : State) : (s.tick).rdata = s.rdata := rfl
@[simp] theorem State.tick_inWait (s : State) : (s.tick).inWait = s.inWait := rfl
@[simp] theorem State.tick_rxQueue (s : State) : (s.tick).rxQueue = s.rxQueue := rfl
@[simp] theorem State.tick_xport (s : State) : (s.tick).xport = s.xport := rfl
@[simp] theorem State.tick_txPending (s : State) : (s.tick).txPending = s.txPending := rfl
@[simp] theorem State.tick_plan (s : State) : (s.tick).plan = s.plan := rfl
@[simp] theorem State.tick_trace (s : State) : (s.tick).trace = s.trace := rfl
@[simp] theorem State.tick_draws (s : State) : (s.tick).draws = s.draws := rfl
@[simp] theorem State.tick_inputs (s : State) : (s.tick).inputs = s.inputs := rfl

/-! ### driveCtrl -/

@[simp] theorem State.driveCtrl_role (s : State) (m : PowerMode) : (s.driveCtrl m).role = s.role := rfl
@[simp] theorem State.driveCtrl_ident (s : State) (m : PowerMode) : (s.driveCtrl m).ident = s.ident := rfl
@[simp] theorem State.driveCtrl_xcvr (s : State) (m : PowerMode) : (s.driveCtrl m).xcvr = m := rfl
@[simp] theorem State.driveCtrl_constructed (s : State) (m : PowerMode) : (s.driveCtrl m).constructed = s.constructed := rfl
@[simp] theorem State.driveCtrl_rxConfigured (s : State) (m : PowerMode) : (s.driveCtrl m).rxConfigured = s.rxConfigured := rfl
@[simp] theorem State.driveCtrl_seq (s : State) (m : PowerMode) : (s.driveCtrl m).seq = s.seq := rfl
@[simp] theorem State.driveCtrl_opId (s : State) (m : PowerMode) : (s.driveCtrl m).opId = s.opId := rfl
@[simp] theorem State.driveCtrl_opLen (s : State) (m : PowerMode) : (s.driveCtrl m).opLen = s.opLen := rfl
@[simp] theorem State.driveCtrl_opMode (s : State) (m : PowerMode) : (s.driveCtrl m).opMode = s.opMode := rfl
@[simp] theorem State.driveCtrl_mem (s : State) (m : PowerMode) : (s.driveCtrl m).mem = s.mem := rfl
@[simp] theorem State.driveCtrl_win (s : State) (m : PowerMode) : (s.driveCtrl m).win = s.win := rfl
@[simp] theorem State.driveCtrl_done (s : State) (m : PowerMode) : (s.driveCtrl m).done = s.done := rfl
@[simp] theorem State.driveCtrl_result (s : State) (m : PowerMode) : (s.driveCtrl m).result = s.result := rfl
@[simp] theorem State.driveCtrl_ctrl (s : State) (m : PowerMode) : (s.driveCtrl m).ctrl = m := rfl
@[simp] theorem State.driveCtrl_txovr (s : State) (m : PowerMode) : (s.driveCtrl m).txovr = s.txovr := rfl
@[simp] theorem State.driveCtrl_timer (s : State) (m : PowerMode) : (s.driveCtrl m).timer = s.timer := rfl
@[simp] theorem State.driveCtrl_pwrCtrlEn (s : State) (m : PowerMode) : (s.driveCtrl m).pwrCtrlEn = s.pwrCtrlEn := rfl
@[simp] theorem State.driveCtrl_txDrain (s : State) (m : PowerMode) : (s.driveCtrl m).txDrain = s.txDrain := rfl
@[simp] theorem State.driveCtrl_rdata (s : State) (m : PowerMode) : (s.driveCtrl m).rdata = s.rdata := rfl
@[simp] theorem State.driveCtrl_inWait (s : State) (m : PowerMode) : (s.driveCtrl m).inWait = s.inWait := rfl
@[simp] theorem State.driveCtrl_rxQueue (s : State) (m : PowerMode) : (s.driveCtrl m).rxQueue = s.rxQueue := rfl
@[simp] theorem State.driveCtrl_xport (s : State) (m : PowerMode) : (s.driveCtrl m).xport = s.xport := rfl
@[simp] theorem State.driveCtrl_txPending (s : State) (m : PowerMode) : (s.driveCtrl m).txPending = s.pendingAt m := rfl
@[simp] theorem State.driveCtrl_plan (s : State) (m : PowerMode) : (s.driveCtrl m).plan = s.plan := rfl
@[simp] theorem State.driveCtrl_trace (s : State) (m : PowerMode) : (s.driveCtrl m).trace = s.trace ++ [.ctrlLine m] := rfl
@[simp] theorem State.driveCtrl_draws (s : State) (m : PowerMode) : (s.driveCtrl m).draws = s.draws := rfl
@[simp] theorem State.driveCtrl_inputs (s : State) (m : PowerMode) : (s.driveCtrl m).inputs = s.inputs := rfl

/-! ### driveOverride -/

@[simp] theorem State.driveOverride_role (s : State) (v : TxOvr) : (s.driveOverride v).role = s.role := rfl
@[simp] theorem State.driveOverride_ident (s : State) (v : TxOvr) : (s.driveOverride v).ident = s.ident := rfl
@[simp] theorem State.driveOverride_xcvr (s : State) (v : TxOvr) : (s.driveOverride v).xcvr = s.xcvr := rfl
@[simp] theorem State.driveOverride_constructed (s : State) (v : TxOvr) : (s.driveOverride v).constructed = s.constructed := rfl
@[simp] theorem State.driveOverride_rxConfigured (s : State) (v : TxOvr) : (s.driveOverride v).rxConfigured = s.rxConfigured := rfl
@[simp] theorem State.driveOverride_seq (s : State) (v : TxOvr) : (s.driveOverride v).seq = s.seq := rfl
@[simp] theorem State.driveOverride_opId (s : State) (v : TxOvr) : (s.driveOverride v).opId = s.opId := rfl
@[simp] theorem State.driveOverride_opLen (s : State) (v : TxOvr) : (s.driveOverride v).opLen = s.opLen := rfl
@[simp] theorem State.driveOverride_opMode (s : State) (v : TxOvr) : (s.driveOverride v).opMode = s.opMode := rfl
@[simp] theorem State.driveOverride_mem (s : State) (v : TxOvr) : (s.driveOverride v).mem = s.mem := rfl
@[simp] theorem State.driveOverride_win (s : State) (v : TxOvr) : (s.driveOverride v).win = s.win := rfl
@[simp] theorem State.driveOverride_done (s : State) (v : TxOvr) : (s.driveOverride v).done = s.done := rfl
@[simp] theorem State.driveOverride_result (s : State) (v : TxOvr) : (s.driveOverride v).result = s.result := rfl
@[simp] theorem State.driveOverride_ctrl (s : State) (v : TxOvr) : (s.driveOverride v).ctrl = s.ctrl := rfl
@[simp] theorem State.driveOverride_txovr (s : State) (v : TxOvr) : (s.driveOverride v).txovr = v := rfl
@[simp] theorem State.driveOverride_timer (s : State) (v : TxOvr) : (s.driveOverride v).timer = s.timer := rfl
@[simp] theorem State.driveOverride_pwrCtrlEn (s : State) (v : TxOvr) : (s.driveOverride v).pwrCtrlEn = s.pwrCtrlEn := rfl
@[simp] theorem State.driveOverride_txDrain (s : State) (v : TxOvr) : (s.driveOverride v).txDrain = s.txDrain := rfl
@[simp] theorem State.driveOverride_rdata (s : State) (v : TxOvr) : (s.driveOverride v).rdata = s.rdata := rfl
@[simp] theorem State.driveOverride_inWait (s : State) (v : TxOvr) : (s.driveOverride v).inWait = s.inWait := rfl
@[simp] theorem State.driveOverride_rxQueue (s : State) (v : TxOvr) : (s.driveOverride v).rxQueue = s.rxQueue := rfl
@[simp] theorem State.driveOverride_xport (s : State) (v : TxOvr) : (s.driveOverride v).xport = s.xport := rfl
@[simp] theorem State.driveOverride_txPending (s : State) (v : TxOvr) : (s.driveOverride v).txPending = s.txPending := rfl
@[simp] theorem State.driveOverride_plan (s : State) (v : TxOvr) : (s.driveOverride v).plan = s.plan := rfl
@[simp] theorem State.driveOverride_trace (s : State) (v : TxOvr) : (s.driveOverride v).trace = s.trace ++ [.txOverride v] := rfl
@[simp] theorem State.driveOverride_draws (s : State) (v : TxOvr) : (s.driveOverride v).draws = s.draws := rfl
@[simp] theorem State.driveOverride_inputs (s : State) (v : TxOvr) : (s.driveOverride v).inputs = s.inputs := rfl

/-! ### handOver -/

@[simp] theorem State.handOver_role (s : State) (b : Byte) : (s.handOver b).role = s.role := rfl
@[simp] theorem State.handOver_ident (s : State) (b : Byte) : (s.handOver b).ident = s.ident := rfl
@[simp] theorem State.handOver_xcvr (s : State) (b : Byte) : (s.handOver b).xcvr = s.xcvr := rfl
@[simp] theorem State.handOver_constructed (s : State) (b : Byte) : (s.handOver b).constructed = s.constructed := rfl
@[simp] theorem State.handOver_rxConfigured (s : State) (b : Byte) : (s.handOver b).rxConfigured = s.rxConfigured := rfl
@[simp] theorem State.handOver_seq (s : State) (b : Byte) : (s.handOver b).seq = s.seq := rfl
@[simp] theorem State.handOver_opId (s : State) (b : Byte) : (s.handOver b).opId = s.opId := rfl
@[simp] theorem State.handOver_opLen (s : State) (b : Byte) : (s.handOver b).opLen = s.opLen := rfl
@[simp] theorem State.handOver_opMode (s : State) (b : Byte) : (s.handOver b).opMode = s.opMode := rfl
@[simp] theorem State.handOver_mem (s : State) (b : Byte) : (s.handOver b).mem = s.mem := rfl
@[simp] theorem State.handOver_win (s : State) (b : Byte) : (s.handOver b).win = s.win := rfl
@[simp] theorem State.handOver_done (s : State) (b : Byte) : (s.handOver b).done = s.done := rfl
@[simp] theorem State.handOver_result (s : State) (b : Byte) : (s.handOver b).result = s.result := rfl
@[simp] theorem State.handOver_ctrl (s : State) (b : Byte) : (s.handOver b).ctrl = s.ctrl := rfl
@[simp] theorem State.handOver_txovr (s : State) (b : Byte) : (s.handOver b).txovr = s.txovr := rfl
@[simp] theorem State.handOver_timer (s : State) (b : Byte) : (s.handOver b).timer = s.timer := rfl
@[simp] theorem State.handOver_pwrCtrlEn (s : State) (b : Byte) : (s.handOver b).pwrCtrlEn = s.pwrCtrlEn := rfl
@[simp] theorem State.handOver_txDrain (s : State) (b : Byte) : (s.handOver b).txDrain = s.txDrain := rfl
@[simp] theorem State.handOver_rdata (s : State) (b : Byte) : (s.handOver b).rdata = s.rdata := rfl
@[simp] theorem State.handOver_inWait (s : State) (b : Byte) : (s.handOver b).inWait = s.inWait := rfl
@[simp] theorem State.handOver_rxQueue (s : State) (b : Byte) : (s.handOver b).rxQueue = s.rxQueue := rfl
@[simp] theorem State.handOver_xport (s : State) (b : Byte) : (s.handOver b).xport = s.xport := rfl
@[simp] theorem State.handOver_txPending (s : State) (b : Byte) : (s.handOver b).txPending = s.txPending ++ [b] := rfl
@[simp] theorem State.handOver_plan (s : State) (b : Byte) : (s.handOver b).plan = s.plan := rfl
@[simp] theorem State.handOver_trace (s : State) (b : Byte) : (s.handOver b).trace = s.trace ++ [.txByte b] := rfl
@[simp] theorem State.handOver_draws (s : State) (b : Byte) : (s.handOver b).draws = s.draws := rfl
@[simp] theorem State.handOver_inputs (s : State) (b : Byte) : (s.handOver b).inputs = s.inputs := rfl

/-! ### configureTransport -/

@[simp] theorem State.configureTransport_role (s : State) : (s.configureTransport).role = s.role := rfl
@[simp] theorem State.configureTransport_ident (s : State) : (s.configureTransport).ident = s.ident := rfl
@[simp] theorem State.configureTransport_xcvr (s : State) : (s.configureTransport).xcvr = s.xcvr := rfl
@[simp] theorem State.configureTransport_constructed (s : State) : (s.configureTransport).constructed = s.constructed := rfl
@[simp] theorem State.configureTransport_rxConfigured (s : State) : (s.configureTransport).rxConfigured = s.rxConfigured := rfl
@[simp] theorem State.configureTransport_seq (s : State) : (s.configureTransport).seq = s.seq := rfl
@[simp] theorem State.configureTransport_opId (s : State) : (s.configureTransport).opId = s.opId := rfl
@[simp] theorem State.configureTransport_opLen (s : State) : (s.configureTransport).opLen = s.opLen := rfl
@[simp] theorem State.configureTransport_opMode (s : State) : (s.configureTransport).opMode = s.opMode := rfl
@[simp] theorem State.configureTransport_mem (s : State) : (s.configureTransport).mem = s.mem := rfl
@[simp] theorem State.configureTransport_win (s : State) : (s.configureTransport).win = s.win := rfl
@[simp] theorem State.configureTransport_done (s : State) : (s.configureTransport).done = s.done := rfl
@[simp] theorem State.configureTransport_result (s : State) : (s.configureTransport).result = s.result := rfl
@[simp] theorem State.configureTransport_ctrl (s : State) : (s.configureTransport).ctrl = s.ctrl := rfl
@[simp] theorem State.configureTransport_txovr (s : State) : (s.configureTransport).txovr = s.txovr := rfl
@[simp] theorem State.configureTransport_timer (s : State) : (s.configureTransport).timer = s.timer := rfl
@[simp] theorem State.configureTransport_pwrCtrlEn (s : State) : (s.configureTransport).pwrCtrlEn = s.pwrCtrlEn := rfl
@[simp] theorem State.configureTransport_txDrain (s : State) : (s.configureTransport).txDrain = s.txDrain := rfl
@[simp] theorem State.configureTransport_rdata (s : State) : (s.configureTransport).rdata = s.rdata := rfl
@[simp] theorem State.configureTransport_inWait (s : State) : (s.configureTransport).inWait = s.inWait := rfl
@[simp] theorem State.configureTransport_rxQueue (s : State) : (s.configureTransport).rxQueue = s.rxQueue := rfl
@[simp] theorem State.configureTransport_xport (s : State) : (s.configureTransport).xport = some Config.baud := rfl
@[simp] theorem State.configureTransport_txPending (s : State) : (s.configureTransport).txPending = s.txPending := rfl
@[simp] theorem State.configureTransport_plan (s : State) : (s.configureTransport).plan = s.plan := rfl
@[simp] theorem State.configureTransport_trace (s : State) : (s.configureTransport).trace = s.trace ++ [.xportConfig Config.baud] := rfl
@[simp] theorem State.configureTransport_draws (s : State) : (s.configureTransport).draws = s.draws := rfl
@[simp] theorem State.configureTransport_inputs (s : State) : (s.configureTransport).inputs = s.inputs := rfl

/-! ### answerPoll -/

@[simp] theorem State.answerPoll_role (s : State) (a : Bool) : (s.answerPoll a).role = s.role := rfl
@[simp] theorem State.answerPoll_ident (s : State) (a : Bool) : (s.answerPoll a).ident = s.ident := rfl
@[simp] theorem State.answerPoll_xcvr (s : State) (a : Bool) : (s.answerPoll a).xcvr = s.xcvr := rfl
@[simp] theorem State.answerPoll_constructed (s : State) (a : Bool) : (s.answerPoll a).constructed = s.constructed := rfl
@[simp] theorem State.answerPoll_rxConfigured (s : State) (a : Bool) : (s.answerPoll a).rxConfigured = s.rxConfigured := rfl
@[simp] theorem State.answerPoll_seq (s : State) (a : Bool) : (s.answerPoll a).seq = if a then .reading else .noData := rfl
@[simp] theorem State.answerPoll_opId (s : State) (a : Bool) : (s.answerPoll a).opId = s.opId := rfl
@[simp] theorem State.answerPoll_opLen (s : State) (a : Bool) : (s.answerPoll a).opLen = s.opLen := rfl
@[simp] theorem State.answerPoll_opMode (s : State) (a : Bool) : (s.answerPoll a).opMode = s.opMode := rfl
@[simp] theorem State.answerPoll_mem (s : State) (a : Bool) : (s.answerPoll a).mem = s.mem := rfl
@[simp] theorem State.answerPoll_win (s : State) (a : Bool) : (s.answerPoll a).win = s.win := rfl
@[simp] theorem State.answerPoll_done (s : State) (a : Bool) : (s.answerPoll a).done = s.done := rfl
@[simp] theorem State.answerPoll_result (s : State) (a : Bool) : (s.answerPoll a).result = s.result := rfl
@[simp] theorem State.answerPoll_ctrl (s : State) (a : Bool) : (s.answerPoll a).ctrl = s.ctrl := rfl
@[simp] theorem State.answerPoll_txovr (s : State) (a : Bool) : (s.answerPoll a).txovr = s.txovr := rfl
@[simp] theorem State.answerPoll_timer (s : State) (a : Bool) : (s.answerPoll a).timer = s.timer := rfl
@[simp] theorem State.answerPoll_pwrCtrlEn (s : State) (a : Bool) : (s.answerPoll a).pwrCtrlEn = s.pwrCtrlEn := rfl
@[simp] theorem State.answerPoll_txDrain (s : State) (a : Bool) : (s.answerPoll a).txDrain = s.txDrain := rfl
@[simp] theorem State.answerPoll_rdata (s : State) (a : Bool) : (s.answerPoll a).rdata = s.rdata := rfl
@[simp] theorem State.answerPoll_inWait (s : State) (a : Bool) : (s.answerPoll a).inWait = s.inWait := rfl
@[simp] theorem State.answerPoll_rxQueue (s : State) (a : Bool) : (s.answerPoll a).rxQueue = s.rxQueue := rfl
@[simp] theorem State.answerPoll_xport (s : State) (a : Bool) : (s.answerPoll a).xport = s.xport := rfl
@[simp] theorem State.answerPoll_txPending (s : State) (a : Bool) : (s.answerPoll a).txPending = s.txPending := rfl
@[simp] theorem State.answerPoll_plan (s : State) (a : Bool) : (s.answerPoll a).plan = s.plan := rfl
@[simp] theorem State.answerPoll_trace (s : State) (a : Bool) : (s.answerPoll a).trace = s.trace ++ [.rxAvail a] := rfl
@[simp] theorem State.answerPoll_draws (s : State) (a : Bool) : (s.answerPoll a).draws = s.draws := rfl
@[simp] theorem State.answerPoll_inputs (s : State) (a : Bool) : (s.answerPoll a).inputs = s.inputs := rfl

/-! ### takeByte_window -/

@[simp] theorem State.takeByte_window_role (s : State) (b : Byte) (q : List Byte) : (s.takeByte .window b q).role = s.role := rfl
@[simp] theorem State.takeByte_window_ident (s : State) (b : Byte) (q : List Byte) : (s.takeByte .window b q).ident = s.ident := rfl
@[simp] theorem State.takeByte_window_xcvr (s : State) (b : Byte) (q : List Byte) : (s.takeByte .window b q).xcvr = s.xcvr := rfl
@[simp] theorem State.takeByte_window_constructed (s : State) (b : Byte) (q : List Byte) : (s.takeByte .window b q).constructed = s.constructed := rfl
@[simp] theorem State.takeByte_window_rxConfigured (s : State) (b : Byte) (q : List Byte) : (s.takeByte .window b q).rxConfigured = s.rxConfigured := rfl
@[simp] theorem State.takeByte_window_seq (s : State) (b : Byte) (q : List Byte) : (s.takeByte .window b q).seq = s.seq := rfl
@[simp] theorem State.takeByte_window_opId (s : State) (b : Byte) (q : List Byte) : (s.takeByte .window b q).opId = s.opId := rfl
@[simp] theorem State.takeByte_window_opLen (s : State) (b : Byte) (q : List Byte) : (s.takeByte .window b q).opLen = s.opLen := rfl
@[simp] theorem State.takeByte_window_opMode (s : State) (b : Byte) (q : List Byte) : (s.takeByte .window b q).opMode = s.opMode := rfl
@[simp] theorem State.takeByte_window_mem (s : State) (b : Byte) (q : List Byte) : (s.takeByte .window b q).mem = s.mem := rfl
@[simp] theorem State.takeByte_window_win (s : State) (b : Byte) (q : List Byte) : (s.takeByte .window b q).win = s.win ++ [b] := rfl
@[simp] theorem State.takeByte_window_done (s : State) (b : Byte) (q : List Byte) : (s.takeByte .window b q).done = s.done := rfl
@[simp] theorem State.takeByte_window_result (s : State) (b : Byte) (q : List Byte) : (s.takeByte .window b q).result = s.result := rfl
@[simp] theorem State.takeByte_window_ctrl (s : State) (b : Byte) (q : List Byte) : (s.takeByte .window b q).ctrl = s.ctrl := rfl
@[simp] theorem State.takeByte_window_txovr (s : State) (b : Byte) (q : List Byte) : (s.takeByte .window b q).txovr = s.txovr := rfl
@[simp] theorem State.takeByte_window_timer (s : State) (b : Byte) (q : List Byte) : (s.takeByte .window b q).timer = s.timer := rfl
@[simp] theorem State.takeByte_window_pwrCtrlEn (s : State) (b : Byte) (q : List Byte) : (s.takeByte .window b q).pwrCtrlEn = s.pwrCtrlEn := rfl
@[simp] theorem State.takeByte_window_txDrain (s : State) (b : Byte) (q : List Byte) : (s.takeByte .window b q).txDrain = s.txDrain := rfl
@[simp] theorem State.takeByte_window_rdata (s : State) (b : Byte) (q : List Byte) : (s.takeByte .window b q).rdata = s.rdata := rfl
@[simp] theorem State.takeByte_window_inWait (s : State) (b : Byte) (q : List Byte) : (s.takeByte .window b q).inWait = s.inWait := rfl
@[simp] theorem State.takeByte_window_rxQueue (s : State) (b : Byte) (q : List Byte) : (s.takeByte .window b q).rxQueue = q := rfl
@[simp] theorem State.takeByte_window_xport (s : State) (b : Byte) (q : List Byte) : (s.takeByte .window b q).xport = s.xport := rfl
@[simp] theorem State.takeByte_window_txPending (s : State) (b : Byte) (q : List Byte) : (s.takeByte .window b q).txPending = s.txPending := rfl
@[simp] theorem State.takeByte_window_plan (s : State) (b : Byte) (q : List Byte) : (s.takeByte .window b q).plan = s.plan := rfl
@[simp] theorem State.takeByte_window_trace (s : State) (b : Byte) (q : List Byte) : (s.takeByte .window b q).trace = s.trace ++ [.rxByte b] := rfl
@[simp] theorem State.takeByte_window_draws (s : State) (b : Byte) (q : List Byte) : (s.takeByte .window b q).draws = s.draws := rfl
@[simp] theorem State.takeByte_window_inputs (s : State) (b : Byte) (q : List Byte) : (s.takeByte .window b q).inputs = s.inputs := rfl

/-! ### takeByte_rxbuf -/

@[simp] theorem State.takeByte_rxbuf_role (s : State) (i b : Byte) (q : List Byte) : (s.takeByte (.rxbuf i) b q).role = s.role := rfl
@[simp] theorem State.takeByte_rxbuf_ident (s : State) (i b : Byte) (q : List Byte) : (s.takeByte (.rxbuf i) b q).ident = s.ident := rfl
@[simp] theorem State.takeByte_rxbuf_xcvr (s : State) (i b : Byte) (q : List Byte) : (s.takeByte (.rxbuf i) b q).xcvr = s.xcvr := rfl
@[simp] theorem State.takeByte_rxbuf_constructed (s : State) (i b : Byte) (q : List Byte) : (s.takeByte (.rxbuf i) b q).constructed = s.constructed := rfl
@[simp] theorem State.takeByte_rxbuf_rxConfigured (s : State) (i b : Byte) (q : List Byte) : (s.takeByte (.rxbuf i) b q).rxConfigured = s.rxConfigured := rfl
@[simp] theorem State.takeByte_rxbuf_seq (s : State) (i b : Byte) (q : List Byte) : (s.takeByte (.rxbuf i) b q).seq = s.seq := rfl
@[simp] theorem State.takeByte_rxbuf_opId (s : State) (i b : Byte) (q : List Byte) : (s.takeByte (.rxbuf i) b q).opId = s.opId := rfl
@[simp] theorem State.takeByte_rxbuf_opLen (s : State) (i b : Byte) (q : List Byte) : (s.takeByte (.rxbuf i) b q).opLen = s.opLen := rfl
@[simp] theorem State.takeByte_rxbuf_opMode (s : State) (i b : Byte) (q : List Byte) : (s.takeByte (.rxbuf i) b q).opMode = s.opMode := rfl
@[simp] theorem State.takeByte_rxbuf_mem (s : State) (i b : Byte) (q : List Byte) : (s.takeByte (.rxbuf i) b q).mem = Memory.write s.mem (rxAddr i) b := rfl
@[simp] theorem State.takeByte_rxbuf_win (s : State) (i b : Byte) (q : List Byte) : (s.takeByte (.rxbuf i) b q).win = s.win := rfl
@[simp] theorem State.takeByte_rxbuf_done (s : State) (i b : Byte) (q : List Byte) : (s.takeByte (.rxbuf i) b q).done = s.done := rfl
@[simp] theorem State.takeByte_rxbuf_result (s : State) (i b : Byte) (q : List Byte) : (s.takeByte (.rxbuf i) b q).result = s.result := rfl
@[simp] theorem State.takeByte_rxbuf_ctrl (s : State) (i b : Byte) (q : List Byte) : (s.takeByte (.rxbuf i) b q).ctrl = s.ctrl := rfl
@[simp] theorem State.takeByte_rxbuf_txovr (s : State) (i b : Byte) (q : List Byte) : (s.takeByte (.rxbuf i) b q).txovr = s.txovr := rfl
@[simp] theorem State.takeByte_rxbuf_timer (s : State) (i b : Byte) (q : List Byte) : (s.takeByte (.rxbuf i) b q).timer = s.timer := rfl
@[simp] theorem State.takeByte_rxbuf_pwrCtrlEn (s : State) (i b : Byte) (q : List Byte) : (s.takeByte (.rxbuf i) b q).pwrCtrlEn = s.pwrCtrlEn := rfl
@[simp] theorem State.takeByte_rxbuf_txDrain (s : State) (i b : Byte) (q : List Byte) : (s.takeByte (.rxbuf i) b q).txDrain = s.txDrain := rfl
@[simp] theorem State.takeByte_rxbuf_rdata (s : State) (i b : Byte) (q : List Byte) : (s.takeByte (.rxbuf i) b q).rdata = s.rdata := rfl
@[simp] theorem State.takeByte_rxbuf_inWait (s : State) (i b : Byte) (q : List Byte) : (s.takeByte (.rxbuf i) b q).inWait = s.inWait := rfl
@[simp] theorem State.takeByte_rxbuf_rxQueue (s : State) (i b : Byte) (q : List Byte) : (s.takeByte (.rxbuf i) b q).rxQueue = q := rfl
@[simp] theorem State.takeByte_rxbuf_xport (s : State) (i b : Byte) (q : List Byte) : (s.takeByte (.rxbuf i) b q).xport = s.xport := rfl
@[simp] theorem State.takeByte_rxbuf_txPending (s : State) (i b : Byte) (q : List Byte) : (s.takeByte (.rxbuf i) b q).txPending = s.txPending := rfl
@[simp] theorem State.takeByte_rxbuf_plan (s : State) (i b : Byte) (q : List Byte) : (s.takeByte (.rxbuf i) b q).plan = s.plan := rfl
@[simp] theorem State.takeByte_rxbuf_trace (s : State) (i b : Byte) (q : List Byte) : (s.takeByte (.rxbuf i) b q).trace = s.trace ++ [.rxByte b] := rfl
@[simp] theorem State.takeByte_rxbuf_draws (s : State) (i b : Byte) (q : List Byte) : (s.takeByte (.rxbuf i) b q).draws = s.draws := rfl
@[simp] theorem State.takeByte_rxbuf_inputs (s : State) (i b : Byte) (q : List Byte) : (s.takeByte (.rxbuf i) b q).inputs = s.inputs := rfl

/-! ### issue -/

@[simp] theorem State.issue_role (s : State) (f : Seq) (i l : Byte) (m : Bool) (p : Plan) : (s.issue f i l m p).role = s.role := rfl
@[simp] theorem State.issue_ident (s : State) (f : Seq) (i l : Byte) (m : Bool) (p : Plan) : (s.issue f i l m p).ident = s.ident := rfl
@[simp] theorem State.issue_xcvr (s : State) (f : Seq) (i l : Byte) (m : Bool) (p : Plan) : (s.issue f i l m p).xcvr = s.xcvr := rfl
@[simp] theorem State.issue_constructed (s : State) (f : Seq) (i l : Byte) (m : Bool) (p : Plan) : (s.issue f i l m p).constructed = s.constructed := rfl
@[simp] theorem State.issue_rxConfigured (s : State) (f : Seq) (i l : Byte) (m : Bool) (p : Plan) : (s.issue f i l m p).rxConfigured = s.rxConfigured := rfl
@[simp] theorem State.issue_seq (s : State) (f : Seq) (i l : Byte) (m : Bool) (p : Plan) : (s.issue f i l m p).seq = f := rfl
@[simp] theorem State.issue_opId (s : State) (f : Seq) (i l : Byte) (m : Bool) (p : Plan) : (s.issue f i l m p).opId = i := rfl
@[simp] theorem State.issue_opLen (s : State) (f : Seq) (i l : Byte) (m : Bool) (p : Plan) : (s.issue f i l m p).opLen = l := rfl
@[simp] theorem State.issue_opMode (s : State) (f : Seq) (i l : Byte) (m : Bool) (p : Plan) : (s.issue f i l m p).opMode = m := rfl
@[simp] theorem State.issue_mem (s : State) (f : Seq) (i l : Byte) (m : Bool) (p : Plan) : (s.issue f i l m p).mem = s.mem := rfl
@[simp] theorem State.issue_win (s : State) (f : Seq) (i l : Byte) (m : Bool) (p : Plan) : (s.issue f i l m p).win = [] := rfl
@[simp] theorem State.issue_done (s : State) (f : Seq) (i l : Byte) (m : Bool) (p : Plan) : (s.issue f i l m p).done = false := rfl
@[simp] theorem State.issue_result (s : State) (f : Seq) (i l : Byte) (m : Bool) (p : Plan) : (s.issue f i l m p).result = s.result := rfl
@[simp] theorem State.issue_ctrl (s : State) (f : Seq) (i l : Byte) (m : Bool) (p : Plan) : (s.issue f i l m p).ctrl = s.ctrl := rfl
@[simp] theorem State.issue_txovr (s : State) (f : Seq) (i l : Byte) (m : Bool) (p : Plan) : (s.issue f i l m p).txovr = s.txovr := rfl
@[simp] theorem State.issue_timer (s : State) (f : Seq) (i l : Byte) (m : Bool) (p : Plan) : (s.issue f i l m p).timer = s.timer := rfl
@[simp] theorem State.issue_pwrCtrlEn (s : State) (f : Seq) (i l : Byte) (m : Bool) (p : Plan) : (s.issue f i l m p).pwrCtrlEn = s.pwrCtrlEn := rfl
@[simp] theorem State.issue_txDrain (s : State) (f : Seq) (i l : Byte) (m : Bool) (p : Plan) : (s.issue f i l m p).txDrain = s.txDrain := rfl
@[simp] theorem State.issue_rdata (s : State) (f : Seq) (i l : Byte) (m : Bool) (p : Plan) : (s.issue f i l m p).rdata = s.rdata := rfl
@[simp] theorem State.issue_inWait (s : State) (f : Seq) (i l : Byte) (m : Bool) (p : Plan) : (s.issue f i l m p).inWait = s.inWait := rfl
@[simp] theorem State.issue_rxQueue (s : State) (f : Seq) (i l : Byte) (m : Bool) (p : Plan) : (s.issue f i l m p).rxQueue = s.rxQueue := rfl
@[simp] theorem State.issue_xport (s : State) (f : Seq) (i l : Byte) (m : Bool) (p : Plan) : (s.issue f i l m p).xport = s.xport := rfl
@[simp] theorem State.issue_txPending (s : State) (f : Seq) (i l : Byte) (m : Bool) (p : Plan) : (s.issue f i l m p).txPending = s.txPending := rfl
@[simp] theorem State.issue_plan (s : State) (f : Seq) (i l : Byte) (m : Bool) (p : Plan) : (s.issue f i l m p).plan = p := rfl
@[simp] theorem State.issue_trace (s : State) (f : Seq) (i l : Byte) (m : Bool) (p : Plan) : (s.issue f i l m p).trace = s.trace := rfl
@[simp] theorem State.issue_draws (s : State) (f : Seq) (i l : Byte) (m : Bool) (p : Plan) : (s.issue f i l m p).draws = s.draws := rfl
@[simp] theorem State.issue_inputs (s : State) (f : Seq) (i l : Byte) (m : Bool) (p : Plan) : (s.issue f i l m p).inputs = s.inputs := rfl

/-! ### finish -/

@[simp] theorem State.finish_role (s : State) (r : Option Result) : (s.finish r).role = s.role := rfl
@[simp] theorem State.finish_ident (s : State) (r : Option Result) : (s.finish r).ident = s.ident := rfl
@[simp] theorem State.finish_xcvr (s : State) (r : Option Result) : (s.finish r).xcvr = s.xcvr := rfl
@[simp] theorem State.finish_constructed (s : State) (r : Option Result) : (s.finish r).constructed = s.constructed := rfl
@[simp] theorem State.finish_rxConfigured (s : State) (r : Option Result) : (s.finish r).rxConfigured = s.rxConfigured := rfl
@[simp] theorem State.finish_seq (s : State) (r : Option Result) : (s.finish r).seq = .idle := rfl
@[simp] theorem State.finish_opId (s : State) (r : Option Result) : (s.finish r).opId = s.opId := rfl
@[simp] theorem State.finish_opLen (s : State) (r : Option Result) : (s.finish r).opLen = s.opLen := rfl
@[simp] theorem State.finish_opMode (s : State) (r : Option Result) : (s.finish r).opMode = s.opMode := rfl
@[simp] theorem State.finish_mem (s : State) (r : Option Result) : (s.finish r).mem = s.mem := rfl
@[simp] theorem State.finish_win (s : State) (r : Option Result) : (s.finish r).win = s.win := rfl
@[simp] theorem State.finish_done (s : State) (r : Option Result) : (s.finish r).done = true := rfl
@[simp] theorem State.finish_result (s : State) (r : Option Result) : (s.finish r).result = s.resultAfter r := rfl
@[simp] theorem State.finish_ctrl (s : State) (r : Option Result) : (s.finish r).ctrl = s.ctrl := rfl
@[simp] theorem State.finish_txovr (s : State) (r : Option Result) : (s.finish r).txovr = s.txovr := rfl
@[simp] theorem State.finish_timer (s : State) (r : Option Result) : (s.finish r).timer = s.timer := rfl
@[simp] theorem State.finish_pwrCtrlEn (s : State) (r : Option Result) : (s.finish r).pwrCtrlEn = s.pwrCtrlEn := rfl
@[simp] theorem State.finish_txDrain (s : State) (r : Option Result) : (s.finish r).txDrain = s.txDrain := rfl
@[simp] theorem State.finish_rdata (s : State) (r : Option Result) : (s.finish r).rdata = s.rdata := rfl
@[simp] theorem State.finish_inWait (s : State) (r : Option Result) : (s.finish r).inWait = s.inWait := rfl
@[simp] theorem State.finish_rxQueue (s : State) (r : Option Result) : (s.finish r).rxQueue = s.rxQueue := rfl
@[simp] theorem State.finish_xport (s : State) (r : Option Result) : (s.finish r).xport = s.xport := rfl
@[simp] theorem State.finish_txPending (s : State) (r : Option Result) : (s.finish r).txPending = s.txPending := rfl
@[simp] theorem State.finish_plan (s : State) (r : Option Result) : (s.finish r).plan = s.plan := rfl
@[simp] theorem State.finish_trace (s : State) (r : Option Result) : (s.finish r).trace = s.trace := rfl
@[simp] theorem State.finish_draws (s : State) (r : Option Result) : (s.finish r).draws = s.draws := rfl
@[simp] theorem State.finish_inputs (s : State) (r : Option Result) : (s.finish r).inputs = s.inputs := rfl

/-! ### copyPayload -/

@[simp] theorem State.copyPayload_role (s : State) : (s.copyPayload).role = s.role := rfl
@[simp] theorem State.copyPayload_ident (s : State) : (s.copyPayload).ident = s.ident := rfl
@[simp] theorem State.copyPayload_xcvr (s : State) : (s.copyPayload).xcvr = s.xcvr := rfl
@[simp] theorem State.copyPayload_constructed (s : State) : (s.copyPayload).constructed = s.constructed := rfl
@[simp] theorem State.copyPayload_rxConfigured (s : State) : (s.copyPayload).rxConfigured = s.rxConfigured := rfl
@[simp] theorem State.copyPayload_seq (s : State) : (s.copyPayload).seq = s.seq := rfl
@[simp] theorem State.copyPayload_opId (s : State) : (s.copyPayload).opId = s.opId := rfl
@[simp] theorem State.copyPayload_opLen (s : State) : (s.copyPayload).opLen = s.opLen := rfl
@[simp] theorem State.copyPayload_opMode (s : State) : (s.copyPayload).opMode = s.opMode := rfl
@[simp] theorem State.copyPayload_mem (s : State) : (s.copyPayload).mem = Memory.writeBytes s.mem 0x200 (windowPayload s.win s.opLen.toNat) := rfl
@[simp] theorem State.copyPayload_win (s : State) : (s.copyPayload).win = s.win := rfl
@[simp] theorem State.copyPayload_done (s : State) : (s.copyPayload).done = s.done := rfl
@[simp] theorem State.copyPayload_result (s : State) : (s.copyPayload).result = s.result := rfl
@[simp] theorem State.copyPayload_ctrl (s : State) : (s.copyPayload).ctrl = s.ctrl := rfl
@[simp] theorem State.copyPayload_txovr (s : State) : (s.copyPayload).txovr = s.txovr := rfl
@[simp] theorem State.copyPayload_timer (s : State) : (s.copyPayload).timer = s.timer := rfl
@[simp] theorem State.copyPayload_pwrCtrlEn (s : State) : (s.copyPayload).pwrCtrlEn = s.pwrCtrlEn := rfl
@[simp] theorem State.copyPayload_txDrain (s : State) : (s.copyPayload).txDrain = s.txDrain := rfl
@[simp] theorem State.copyPayload_rdata (s : State) : (s.copyPayload).rdata = s.rdata := rfl
@[simp] theorem State.copyPayload_inWait (s : State) : (s.copyPayload).inWait = s.inWait := rfl
@[simp] theorem State.copyPayload_rxQueue (s : State) : (s.copyPayload).rxQueue = s.rxQueue := rfl
@[simp] theorem State.copyPayload_xport (s : State) : (s.copyPayload).xport = s.xport := rfl
@[simp] theorem State.copyPayload_txPending (s : State) : (s.copyPayload).txPending = s.txPending := rfl
@[simp] theorem State.copyPayload_plan (s : State) : (s.copyPayload).plan = s.plan := rfl
@[simp] theorem State.copyPayload_trace (s : State) : (s.copyPayload).trace = s.trace := rfl
@[simp] theorem State.copyPayload_draws (s : State) : (s.copyPayload).draws = s.draws := rfl
@[simp] theorem State.copyPayload_inputs (s : State) : (s.copyPayload).inputs = s.inputs := rfl

/-! ### spoilPayload -/

@[simp] theorem State.spoilPayload_role (s : State) : (s.spoilPayload).role = s.role := rfl
@[simp] theorem State.spoilPayload_ident (s : State) : (s.spoilPayload).ident = s.ident := rfl
@[simp] theorem State.spoilPayload_xcvr (s : State) : (s.spoilPayload).xcvr = s.xcvr := rfl
@[simp] theorem State.spoilPayload_constructed (s : State) : (s.spoilPayload).constructed = s.constructed := rfl
@[simp] theorem State.spoilPayload_rxConfigured (s : State) : (s.spoilPayload).rxConfigured = s.rxConfigured := rfl
@[simp] theorem State.spoilPayload_seq (s : State) : (s.spoilPayload).seq = s.seq := rfl
@[simp] theorem State.spoilPayload_opId (s : State) : (s.spoilPayload).opId = s.opId := rfl
@[simp] theorem State.spoilPayload_opLen (s : State) : (s.spoilPayload).opLen = s.opLen := rfl
@[simp] theorem State.spoilPayload_opMode (s : State) : (s.spoilPayload).opMode = s.opMode := rfl
@[simp] theorem State.spoilPayload_mem (s : State) : (s.spoilPayload).mem = Memory.writeBytes s.mem 0x200 (s.drawn s.opLen.toNat) := rfl
@[simp] theorem State.spoilPayload_win (s : State) : (s.spoilPayload).win = s.win := rfl
@[simp] theorem State.spoilPayload_done (s : State) : (s.spoilPayload).done = s.done := rfl
@[simp] theorem State.spoilPayload_result (s : State) : (s.spoilPayload).result = s.result := rfl
@[simp] theorem State.spoilPayload_ctrl (s : State) : (s.spoilPayload).ctrl = s.ctrl := rfl
@[simp] theorem State.spoilPayload_txovr (s : State) : (s.spoilPayload).txovr = s.txovr := rfl
@[simp] theorem State.spoilPayload_timer (s : State) : (s.spoilPayload).timer = s.timer := rfl
@[simp] theorem State.spoilPayload_pwrCtrlEn (s : State) : (s.spoilPayload).pwrCtrlEn = s.pwrCtrlEn := rfl
@[simp] theorem State.spoilPayload_txDrain (s : State) : (s.spoilPayload).txDrain = s.txDrain := rfl
@[simp] theorem State.spoilPayload_rdata (s : State) : (s.spoilPayload).rdata = s.rdata := rfl
@[simp] theorem State.spoilPayload_inWait (s : State) : (s.spoilPayload).inWait = s.inWait := rfl
@[simp] theorem State.spoilPayload_rxQueue (s : State) : (s.spoilPayload).rxQueue = s.rxQueue := rfl
@[simp] theorem State.spoilPayload_xport (s : State) : (s.spoilPayload).xport = s.xport := rfl
@[simp] theorem State.spoilPayload_txPending (s : State) : (s.spoilPayload).txPending = s.txPending := rfl
@[simp] theorem State.spoilPayload_plan (s : State) : (s.spoilPayload).plan = s.plan := rfl
@[simp] theorem State.spoilPayload_trace (s : State) : (s.spoilPayload).trace = s.trace := rfl
@[simp] theorem State.spoilPayload_draws (s : State) : (s.spoilPayload).draws = s.draws + s.opLen.toNat := rfl
@[simp] theorem State.spoilPayload_inputs (s : State) : (s.spoilPayload).inputs = s.inputs := rfl

/-! ### verdict -/

@[simp] theorem State.verdict_role (s : State) : (s.verdict).role = s.role := rfl
@[simp] theorem State.verdict_ident (s : State) : (s.verdict).ident = s.ident := rfl
@[simp] theorem State.verdict_xcvr (s : State) : (s.verdict).xcvr = s.xcvr := rfl
@[simp] theorem State.verdict_constructed (s : State) : (s.verdict).constructed = s.constructed := rfl
@[simp] theorem State.verdict_rxConfigured (s : State) : (s.verdict).rxConfigured = s.rxConfigured := rfl
@[simp] theorem State.verdict_seq (s : State) : (s.verdict).seq = if s.windowOK then .valid else .invalid := rfl
@[simp] theorem State.verdict_opId (s : State) : (s.verdict).opId = s.opId := rfl
@[simp] theorem State.verdict_opLen (s : State) : (s.verdict).opLen = s.opLen := rfl
@[simp] theorem State.verdict_opMode (s : State) : (s.verdict).opMode = s.opMode := rfl
@[simp] theorem State.verdict_mem (s : State) : (s.verdict).mem = s.mem := rfl
@[simp] theorem State.verdict_win (s : State) : (s.verdict).win = s.win := rfl
@[simp] theorem State.verdict_done (s : State) : (s.verdict).done = s.done := rfl
@[simp] theorem State.verdict_result (s : State) : (s.verdict).result = s.result := rfl
@[simp] theorem State.verdict_ctrl (s : State) : (s.verdict).ctrl = s.ctrl := rfl
@[simp] theorem State.verdict_txovr (s : State) : (s.verdict).txovr = s.txovr := rfl
@[simp] theorem State.verdict_timer (s : State) : (s.verdict).timer = s.timer := rfl
@[simp] theorem State.verdict_pwrCtrlEn (s : State) : (s.verdict).pwrCtrlEn = s.pwrCtrlEn := rfl
@[simp] theorem State.verdict_txDrain (s : State) : (s.verdict).txDrain = s.txDrain := rfl
@[simp] theorem State.verdict_rdata (s : State) : (s.verdict).rdata = s.rdata := rfl
@[simp] theorem State.verdict_inWait (s : State) : (s.verdict).inWait = s.inWait := rfl
@[simp] theorem State.verdict_rxQueue (s : State) : (s.verdict).rxQueue = s.rxQueue := rfl
@[simp] theorem State.verdict_xport (s : State) : (s.verdict).xport = s.xport := rfl
@[simp] theorem State.verdict_txPending (s : State) : (s.verdict).txPending = s.txPending := rfl
@[simp] theorem State.verdict_plan (s : State) : (s.verdict).plan = s.plan := rfl
@[simp] theorem State.verdict_trace (s : State) : (s.verdict).trace = s.trace := rfl
@[simp] theorem State.verdict_draws (s : State) : (s.verdict).draws = s.draws := rfl
@[simp] theorem State.verdict_inputs (s : State) : (s.verdict).inputs = s.inputs := rfl

/-! ### enterWait -/

@[simp] theorem State.enterWait_role (s : State) : (s.enterWait).role = s.role := rfl
@[simp] theorem State.enterWait_ident (s : State) : (s.enterWait).ident = s.ident := rfl
@[simp] theorem State.enterWait_xcvr (s : State) : (s.enterWait).xcvr = s.xcvr := rfl
@[simp] theorem State.enterWait_constructed (s : State) : (s.enterWait).constructed = s.constructed := rfl
@[simp] theorem State.enterWait_rxConfigured (s : State) : (s.enterWait).rxConfigured = s.rxConfigured := rfl
@[simp] theorem State.enterWait_seq (s : State) : (s.enterWait).seq = s.seq := rfl
@[simp] theorem State.enterWait_opId (s : State) : (s.enterWait).opId = s.opId := rfl
@[simp] theorem State.enterWait_opLen (s : State) : (s.enterWait).opLen = s.opLen := rfl
@[simp] theorem State.enterWait_opMode (s : State) : (s.enterWait).opMode = s.opMode := rfl
@[simp] theorem State.enterWait_mem (s : State) : (s.enterWait).mem = s.mem := rfl
@[simp] theorem State.enterWait_win (s : State) : (s.enterWait).win = s.win := rfl
@[simp] theorem State.enterWait_done (s : State) : (s.enterWait).done = s.done := rfl
@[simp] theorem State.enterWait_result (s : State) : (s.enterWait).result = s.result := rfl
@[simp] theorem State.enterWait_ctrl (s : State) : (s.enterWait).ctrl = s.ctrl := rfl
@[simp] theorem State.enterWait_txovr (s : State) : (s.enterWait).txovr = s.txovr := rfl
@[simp] theorem State.enterWait_timer (s : State) : (s.enterWait).timer = s.timer := rfl
@[simp] theorem State.enterWait_pwrCtrlEn (s : State) : (s.enterWait).pwrCtrlEn = s.pwrCtrlEn := rfl
@[simp] theorem State.enterWait_txDrain (s : State) : (s.enterWait).txDrain = s.txDrain := rfl
@[simp] theorem State.enterWait_rdata (s : State) : (s.enterWait).rdata = s.rdata := rfl
@[simp] theorem State.enterWait_inWait (s : State) : (s.enterWait).inWait = true := rfl
@[simp] theorem State.enterWait_rxQueue (s : State) : (s.enterWait).rxQueue = s.rxQueue := rfl
@[simp] theorem State.enterWait_xport (s : State) : (s.enterWait).xport = s.xport := rfl
@[simp] theorem State.enterWait_txPending (s : State) : (s.enterWait).txPending = s.txPending := rfl
@[simp] theorem State.enterWait_plan (s : State) : (s.enterWait).plan = s.plan := rfl
@[simp] theorem State.enterWait_trace (s : State) : (s.enterWait).trace = s.trace := rfl
@[simp] theorem State.enterWait_draws (s : State) : (s.enterWait).draws = s.draws := rfl
@[simp] theorem State.enterWait_inputs (s : State) : (s.enterWait).inputs = s.inputs := rfl

/-! ### leaveWait -/

@[simp] theorem State.leaveWait_role (s : State) : (s.leaveWait).role = s.role := rfl
@[simp] theorem State.leaveWait_ident (s : State) : (s.leaveWait).ident = s.ident := rfl
@[simp] theorem State.leaveWait_xcvr (s : State) : (s.leaveWait).xcvr = s.xcvr := rfl
@[simp] theorem State.leaveWait_constructed (s : State) : (s.leaveWait).constructed = s.constructed := rfl
@[simp] theorem State.leaveWait_rxConfigured (s : State) : (s.leaveWait).rxConfigured = s.rxConfigured := rfl
@[simp] theorem State.leaveWait_seq (s : State) : (s.leaveWait).seq = s.seq := rfl
@[simp] theorem State.leaveWait_opId (s : State) : (s.leaveWait).opId = s.opId := rfl
@[simp] theorem State.leaveWait_opLen (s : State) : (s.leaveWait).opLen = s.opLen := rfl
@[simp] theorem State.leaveWait_opMode (s : State) : (s.leaveWait).opMode = s.opMode := rfl
@[simp] theorem State.leaveWait_mem (s : State) : (s.leaveWait).mem = s.mem := rfl
@[simp] theorem State.leaveWait_win (s : State) : (s.leaveWait).win = s.win := rfl
@[simp] theorem State.leaveWait_done (s : State) : (s.leaveWait).done = s.done := rfl
@[simp] theorem State.leaveWait_result (s : State) : (s.leaveWait).result = s.result := rfl
@[simp] theorem State.leaveWait_ctrl (s : State) : (s.leaveWait).ctrl = s.ctrl := rfl
@[simp] theorem State.leaveWait_txovr (s : State) : (s.leaveWait).txovr = s.txovr := rfl
@[simp] theorem State.leaveWait_timer (s : State) : (s.leaveWait).timer = s.timer := rfl
@[simp] theorem State.leaveWait_pwrCtrlEn (s : State) : (s.leaveWait).pwrCtrlEn = s.pwrCtrlEn := rfl
@[simp] theorem State.leaveWait_txDrain (s : State) : (s.leaveWait).txDrain = s.txDrain := rfl
@[simp] theorem State.leaveWait_rdata (s : State) : (s.leaveWait).rdata = s.rdata := rfl
@[simp] theorem State.leaveWait_inWait (s : State) : (s.leaveWait).inWait = false := rfl
@[simp] theorem State.leaveWait_rxQueue (s : State) : (s.leaveWait).rxQueue = s.rxQueue := rfl
@[simp] theorem State.leaveWait_xport (s : State) : (s.leaveWait).xport = s.xport := rfl
@[simp] theorem State.leaveWait_txPending (s : State) : (s.leaveWait).txPending = s.txPending := rfl
@[simp] theorem State.leaveWait_plan (s : State) : (s.leaveWait).plan = s.plan := rfl
@[simp] theorem State.leaveWait_trace (s : State) : (s.leaveWait).trace = s.trace := rfl
@[simp] theorem State.leaveWait_draws (s : State) : (s.leaveWait).draws = s.draws := rfl
@[simp] theorem State.leaveWait_inputs (s : State) : (s.leaveWait).inputs = s.inputs := rfl

end Sys2Proof.Machine
end

