-- ==== Sys2Proof/Laws/Sequencer.lean ====
section
/-! SUPPORT. What the sequencer can do, said once: running straight actions, sending a payload, taking bytes, waiting;
what every run keeps; and what an accepted command, and a step, can be. -/

namespace Sys2Proof.Machine

/-! ### Running a rule -/

@[simp] theorem Plan.run_stop (s : State) : Plan.stop.run s = { s.elapse with plan := .stop } := rfl

@[simp] theorem Plan.run_act (a : Act) (next : Plan) (s : State) :
    (Plan.act a next).run s = next.run (a.perform s.elapse) := rfl

@[simp] theorem State.elapse_elapse (s : State) : s.elapse.elapse = s.elapse := rfl

/-- Every run begins by letting the timer run out. -/
theorem Plan.run_elapse (p : Plan) (s : State) : p.run s.elapse = p.run s := by
  cases p <;> rfl

/-- Straight actions one after the other. -/
def runActs (acts : List Act) (s : State) : State := acts.foldl (fun s a => a.perform s.elapse) s

theorem Plan.run_after (acts : List Act) (rest : Plan) (s : State) :
    (Plan.after acts rest).run s = rest.run (runActs acts s) := by
  induction acts generalizing s with
  | nil => rfl
  | cons a acts ih => exact ih (a.perform s.elapse)

theorem Plan.after_append (a b : List Act) (rest : Plan) :
    Plan.after (a ++ b) rest = Plan.after a (Plan.after b rest) := List.foldr_append

theorem Plan.after_cons (a : Act) (as : List Act) (rest : Plan) :
    Plan.after (a :: as) rest = .act a (Plan.after as rest) := rfl

theorem Plan.after_nil (rest : Plan) : Plan.after [] rest = rest := rfl

theorem runActs_append (a b : List Act) (s : State) : runActs (a ++ b) s = runActs b (runActs a s) :=
  List.foldl_append

@[simp] theorem runActs_nil (s : State) : runActs [] s = s := rfl

@[simp] theorem runActs_cons (a : Act) (as : List Act) (s : State) :
    runActs (a :: as) s = runActs as (a.perform s.elapse) := rfl

/-- Handing over TXBUF bytes by index: the trace and the pending bytes grow by what TXBUF holds at those indices. -/
theorem runActs_sendBytes (is : List Nat) (s : State) :
    (runActs (is.map fun i => .txByte (.buf (BitVec.ofNat 8 i))) s).elapse =
      { s.elapse with
        trace := s.trace ++ (is.map fun i => s.txbuf (BitVec.ofNat 8 i)).map .txByte,
        txPending := s.txPending ++ is.map fun i => s.txbuf (BitVec.ofNat 8 i) } := by
  induction is generalizing s with
  | nil => simp [State.elapse]
  | cons i is ih =>
    rw [List.map_cons, runActs_cons, ih]
    simp [Act.perform, State.source, State.txbuf, State.handOver, State.emit, State.elapse]

/-- `for i = 0 to n-1: TxByte(TXBUF[i])` (R95). -/
theorem Plan.run_sendPayload (n : Nat) (rest : Plan) (s : State) :
    (Plan.after (sendPayload n) rest).run s =
      rest.run { s.elapse with
        trace := s.trace ++ (s.payload n).map .txByte, txPending := s.txPending ++ s.payload n } := by
  rw [Plan.run_after, ← Plan.run_elapse, sendPayload, runActs_sendBytes, State.payload]

/-! ### Taking bytes -/

@[simp] theorem Plan.taking_nil (rest : Plan) : Plan.taking [] rest = rest := rfl

@[simp] theorem Plan.taking_cons (d : RxDest) (ds : List RxDest) (rest : Plan) :
    Plan.taking (d :: ds) rest = .take d (Plan.taking ds rest) := rfl

/-- Bytes put into their destinations in order, the queue becoming `q`. -/
def State.takeAll (s : State) : List (RxDest × Byte) → List Byte → State
  | [], _ => s
  | (d, b) :: rest, q => (s.takeByte d b (rest.map Prod.snd ++ q)).takeAll rest q

theorem State.takeByte_elapse (s : State) (d : RxDest) (b : Byte) (q : List Byte) :
    s.elapse.takeByte d b q = (s.takeByte d b q).elapse := by cases d <;> rfl

theorem State.takeByte_rxQueue (s : State) (d : RxDest) (b : Byte) (q : List Byte) :
    (s.takeByte d b q).rxQueue = q := by cases d <;> rfl

/-- With a byte in the queue for every destination, all are taken in arrival order and the rule goes on. -/
theorem Plan.run_taking (rest : Plan) :
    ∀ (pairs : List (RxDest × Byte)) (q : List Byte) (s : State), s.rxQueue = pairs.map Prod.snd ++ q →
      (Plan.taking (pairs.map Prod.fst) rest).run s = rest.run (s.takeAll pairs q)
  | [], _, _, _ => rfl
  | (d, b) :: pairs, q, s, h => by
    rw [List.map_cons, Plan.taking_cons, Plan.run]
    simp only [h, List.map_cons, List.cons_append]
    rw [State.takeByte_elapse, Plan.run_elapse,
      Plan.run_taking rest pairs q _ (State.takeByte_rxQueue s d b _)]
    rfl

/-- With too few bytes, those there are are taken and the block waits for the next (R108). -/
theorem Plan.run_taking_waits (d : RxDest) (ds : List RxDest) (rest : Plan) :
    ∀ (pairs : List (RxDest × Byte)) (s : State), s.rxQueue = pairs.map Prod.snd →
      (Plan.taking (pairs.map Prod.fst ++ d :: ds) rest).run s =
        { (s.takeAll pairs []).elapse with plan := Plan.taking (d :: ds) rest }
  | [], s, h => by
    have h : s.rxQueue = [] := h
    simp [Plan.run, h, State.takeAll]
  | (e, b) :: pairs, s, h => by
    rw [List.map_cons, List.cons_append, Plan.taking_cons, Plan.run]
    simp only [h, List.map_cons]
    rw [State.takeByte_elapse, Plan.run_elapse,
      Plan.run_taking_waits d ds rest pairs _ (State.takeByte_rxQueue s e b _)]
    simp [State.takeAll]

/-- Taking bytes into WIN (R43). -/
theorem State.takeAll_window (bs : List Byte) (q : List Byte) (s : State) (h : s.rxQueue = bs ++ q) :
    s.takeAll (bs.map fun b => (RxDest.window, b)) q =
      { s with rxQueue := q, win := s.win ++ bs, trace := s.trace ++ bs.map .rxByte } := by
  induction bs generalizing s with
  | nil =>
    have h : s.rxQueue = q := h
    simp [State.takeAll, ← h]
  | cons b bs ih =>
    have hs : (bs.map fun b => (RxDest.window, b)).map Prod.snd = bs := by
      simp [Function.comp_def]
    rw [List.map_cons, State.takeAll, ih _ (by rw [hs]; rfl)]
    simp [State.takeByte, State.emit]

/-! ### What every run keeps -/

/-- If every action, the poll, the taking of a byte, the verdict, a tick and the bookkeeping of the plan keep `P`, a run
of any rule keeps it. -/
theorem Plan.run_keeps {P : State → Prop} (hE : ∀ s : State, P s → P s.elapse)
    (hA : ∀ (a : Act) (s : State), P s → P (a.perform s)) (hP : ∀ (s : State) (b : Bool), P s → P (s.answerPoll b))
    (hT : ∀ (s : State) (d : RxDest) (b : Byte) (q : List Byte), s.rxQueue = b :: q → P s → P (s.takeByte d b q))
    (hV : ∀ s : State, P s → P s.verdict) (hPlan : ∀ (s : State) (p : Plan), P s → P { s with plan := p }) :
    ∀ (p : Plan) (s : State), P s → P (p.run s)
  | .stop, s, h => hPlan _ _ (hE s h)
  | .act a next, s, h => Plan.run_keeps hE hA hP hT hV hPlan next _ (hA a _ (hE s h))
  | .poll empty avail, s, h => by
    rw [Plan.run]
    split
    · exact Plan.run_keeps hE hA hP hT hV hPlan empty _ (hP _ _ (hE s h))
    · exact Plan.run_keeps hE hA hP hT hV hPlan avail _ (hP _ _ (hE s h))
  | .take d next, s, h => by
    rw [Plan.run]
    split
    · exact hPlan _ _ (hE s h)
    next b q hq => exact Plan.run_keeps hE hA hP hT hV hPlan next _ (hT _ _ _ _ hq (hE s h))
  | .judge bad good, s, h => by
    rw [Plan.run]
    split
    · exact Plan.run_keeps hE hA hP hT hV hPlan good _ (hV _ (hE s h))
    · exact Plan.run_keeps hE hA hP hT hV hPlan bad _ (hV _ (hE s h))

/-- The same for a single move of the block. -/
theorem advance_keeps {P : State → Prop} (hTick : ∀ s : State, P s → P s.tick)
    (hA : ∀ (a : Act) (s : State), P s → P (a.perform s)) (hP : ∀ (s : State) (b : Bool), P s → P (s.answerPoll b))
    (hT : ∀ (s : State) (d : RxDest) (b : Byte) (q : List Byte), s.rxQueue = b :: q → P s → P (s.takeByte d b q))
    (hV : ∀ s : State, P s → P s.verdict) (hPlan : ∀ (s : State) (p : Plan), P s → P { s with plan := p })
    (s : State) (h : P s) : P (advance s) := by
  unfold advance
  split
  · exact hTick s h
  split
  · exact h
  · exact hPlan _ _ (hA _ s h)
  · split
    · exact hPlan _ _ (hP s _ h)
    · exact hPlan _ _ (hP s _ h)
  · split
    · exact h
    next hq => exact hPlan _ _ (hT s _ _ _ hq h)
  · exact hPlan _ _ (hV s h)

/-! ### What a command and a step can be -/

theorem payloadOk_eq_true {len : Byte} : payloadOk len = true ↔ len.toNat ≤ 8 := decide_eq_true_iff

/-- A refused precondition gives no next state. -/
theorem require_next {c : Bool} {r : Refusal} {k : Answer} {t : State} (h : require c r k = .next t) :
    c = true ∧ k = .next t := by
  unfold require at h
  split at h
  next hc => exact ⟨hc, h⟩
  · cases h

@[simp] theorem require_true (r : Refusal) (k : Answer) : require true r k = k := rfl

@[simp] theorem require_false (r : Refusal) (k : Answer) : require false r k = .refused r := rfl

theorem complete_next {o : Answer} {t : State} (h : complete o = .next t) :
    ∃ a, o = .next a ∧ t = a.plan.run a := by
  cases o with
  | next a =>
    cases h
    exact ⟨a, rfl, rfl⟩
  | fault f => cases h
  | refused r => cases h

/-- A command's meaning is its acceptance run to its end or its wait. -/
theorem exec_eq_complete (i : Instr) (s : State) : exec i s = complete (acceptInstr i s) := by
  cases i <;> rfl

theorem busy_eq_false {s : State} : s.busy = false ↔ s.seq = .idle := by
  simp [State.busy]

/-- The sequencer state a command starts in, its rule, and what it makes of the node identity. -/
def firstOf : Instr → Seq
  | .constructM _ => .init
  | .constructS _ _ => .init
  | .cfgRx => .init
  | .write _ _ => .powerUp
  | .writeReq _ => .powerUp
  | .writeResp _ => .powerUp
  | .writeStream _ => .powerUp
  | .read _ => .powerUp
  | .readStream _ => .powerUp

def planOf (pwr : Bool) : Instr → Plan
  | .constructM _ => planConstructM
  | .constructS _ _ => planConstructS pwr
  | .cfgRx => planCfgRx
  | .write _ len => planWrite pwr len
  | .writeReq _ => planWriteReq pwr
  | .writeResp len => planWriteResp pwr len
  | .writeStream len => planWriteStream pwr len
  | .read len => planRead pwr len
  | .readStream len => planReadStream pwr len

/-- The node identity a command leaves: only a construct command writes it (R10, R11). -/
def identified (s : State) : Instr → State
  | .constructM _ => { s with role := .master }
  | .constructS _ id => { s with role := .slave, ident := id }
  | .cfgRx => s
  | .write _ _ => s
  | .writeReq _ => s
  | .writeResp _ => s
  | .writeStream _ => s
  | .read _ => s
  | .readStream _ => s

/-- A command is accepted exactly in Idle with its preconditions; accepted, it has its operands latched and its rule
before it. -/
theorem acceptInstr_next {i : Instr} {s a : State} (h : acceptInstr i s = .next a) :
    s.seq = .idle ∧ allowed s i = true ∧
      ∃ id len mode, a = (identified s i).issue (firstOf i) id len mode (planOf s.pwrCtrlEn i) := by
  cases i <;>
    simp only [acceptInstr, acceptConstructM, acceptConstructS, acceptCfgRx, acceptWrite, acceptWriteReq,
      acceptWriteResp, acceptWriteStream, acceptRead, acceptReadStream, whenFresh, whenReady, whenFrame,
      whenConfigured] at h <;>
    (obtain ⟨hb, h⟩ := require_next h
     obtain ⟨hc, h⟩ := require_next h
     refine ⟨busy_eq_false.mp (by simpa using hb), ?_⟩)
  case constructM mode =>
    obtain ⟨hm, h⟩ := require_next h
    cases h
    exact ⟨by simpa [allowed, hm] using hc, _, _, _, rfl⟩
  case constructS mode id =>
    obtain ⟨hm, h⟩ := require_next h
    cases h
    exact ⟨by simpa [allowed, hm] using hc, _, _, _, rfl⟩
  case cfgRx => cases h; exact ⟨hc, _, _, _, rfl⟩
  case write id len =>
    obtain ⟨hl, h⟩ := require_next h
    cases h
    exact ⟨by simp [allowed, hc, hl], _, _, _, rfl⟩
  case writeReq id => cases h; exact ⟨hc, _, _, _, rfl⟩
  case writeResp len =>
    obtain ⟨hl, h⟩ := require_next h
    cases h
    exact ⟨by simp [allowed, hc, hl], _, _, _, rfl⟩
  case writeStream len => cases h; exact ⟨hc, _, _, _, rfl⟩
  case read len =>
    obtain ⟨hr, h⟩ := require_next h
    obtain ⟨hl, h⟩ := require_next h
    cases h
    exact ⟨by simp [allowed, hc, hl, hr], _, _, _, rfl⟩
  case readStream len =>
    obtain ⟨hr, h⟩ := require_next h
    cases h
    exact ⟨by simp [allowed, hc, hr], _, _, _, rfl⟩

/-- A command that gives a next state was accepted and run. -/
theorem exec_next {i : Instr} {s t : State} (h : exec i s = .next t) :
    ∃ a, acceptInstr i s = .next a ∧ t = a.plan.run a := complete_next (exec_eq_complete i s ▸ h)

/-- What a host write can do. -/
theorem hostWrite_next {num : BitVec 10} {v : Word} {s t : State} (h : hostWrite num v s = .next t) :
    (∃ i, acceptInstr i s = .next t) ∨
    (isTxNum num = true ∧ s.seq = .idle ∧ t = { s with mem := Memory.write s.mem num.toNat (v.setWidth 8) }) ∨
    t = s := by
  unfold hostWrite at h
  split at h
  · obtain ⟨_, h⟩ := require_next h
    split at h
    next i _ => exact .inl ⟨i, h⟩
    · cases h
  split at h
  next hx =>
    obtain ⟨hb, h⟩ := require_next h
    cases h
    exact .inr (.inl ⟨hx, busy_eq_false.mp (by simpa using hb), rfl⟩)
  · cases h
    exact .inr (.inr rfl)

/-- One read of a WAIT: only what the host got, and whether its WAIT goes on (R64). -/
theorem State.pollStatus_eq (s : State) :
    s.pollStatus = if s.inWait then { s with rdata := s.statusWord, inWait := s.busy } else s := rfl

/-- What a WAIT does not touch: whatever holds of a state with any last read and any place of the host in its WAIT. -/
theorem State.pollStatus_keeps {P : State → Prop}
    (hP : ∀ (s : State) (v : Word) (b : Bool), P s → P { s with rdata := v, inWait := b }) (s : State) (h : P s) : P s.pollStatus := by
  rw [State.pollStatus_eq]
  split
  · exact hP _ _ _ h
  · exact h

theorem andThen_next {k : State → State} {o : Answer} {t : State} (h : andThen k o = .next t) :
    ∃ u, o = .next u ∧ t = k u := by
  cases o with
  | next u =>
    cases h
    exact ⟨u, rfl, rfl⟩
  | fault f => cases h
  | refused r => cases h

/-- What a step can be: a move of the block, a command run, or an act of the host or the environment, and then the read of
a host in WAIT. -/
theorem step_next {s t : State} (h : step s = .next t) :
    (s.inputs = [] ∧ t = (advance s).pollStatus) ∨
    (∃ word rest i u, s.inputs = .command word :: rest ∧ decode word = .ok i ∧
      exec i { s with inputs := rest } = .next u ∧ t = u.enterWait.pollStatus) ∨
    (∃ x rest u, s.inputs = .other x :: rest ∧ deliver x { s with inputs := rest } = .next u ∧ t = u.pollStatus) := by
  unfold step at h
  split at h
  next hi => cases h; exact .inl ⟨hi, rfl⟩
  next word rest hi =>
    obtain ⟨u, hu, rfl⟩ := andThen_next h
    obtain ⟨_, hk⟩ := require_next hu
    split at hk
    next i hd => exact .inr (.inl ⟨word, rest, i, u, hi, hd, hk, rfl⟩)
    · cases hk
  next x rest hi =>
    obtain ⟨u, hu, rfl⟩ := andThen_next h
    exact .inr (.inr ⟨x, rest, u, hi, hu, rfl⟩)

end Sys2Proof.Machine
end

