-- ==== Sys2Proof/Laws/Commands.lean ====
section
/-! SUPPORT. The shared parts of the commands, said once: the end of every write and read, the beginning of every read
up to its first byte, and the destinations of the bytes a read takes. -/

namespace Sys2Proof.Machine

/-- No action reads the plan, so what a run makes of a state does not depend on the plan that stands in it. -/
theorem Plan.run_plan (a : Plan) : ∀ (s : State) (p : Plan), a.run { s with plan := p } = a.run s := by
  induction a with
  | stop => intro s p; rfl
  | act x k ih =>
    intro s p
    have : x.perform ({ s with plan := p } : State).elapse = { x.perform s.elapse with plan := p } := by
      cases x <;> rfl
    rw [Plan.run_act, this, ih]
    rfl
  | poll e a ihe iha =>
    intro s p
    simp only [Plan.run]
    split
    · exact ihe (s.elapse.answerPoll false) p
    · exact iha (s.elapse.answerPoll true) p
  | take d k ih =>
    intro s p
    simp only [Plan.run]
    split
    · rfl
    next b q _ =>
      cases d with
      | window => exact ih (s.elapse.takeByte .window b q) p
      | rxbuf i => exact ih (s.elapse.takeByte (.rxbuf i) b q) p
  | judge b g ihb ihg =>
    intro s p
    simp only [Plan.run]
    have : ({ s with plan := p } : State).windowOK = s.windowOK := rfl
    rw [this]
    split
    · exact ihg s.elapse.verdict p
    · exact ihb s.elapse.verdict p

/-- The end of every write and read: the transceiver to Sleep if power control is enabled, then the return (R76). -/
theorem closing_run (s : State) (r : Result) :
    (closing s.pwrCtrlEn r).run s =
      { s with
        done := true, result := r, seq := .idle, plan := .stop, timer := 0#16,
        xcvr := if s.pwrCtrlEn then .sleep else s.xcvr, ctrl := if s.pwrCtrlEn then .sleep else s.ctrl,
        txPending := if s.pwrCtrlEn then s.pendingAt .sleep else s.txPending,
        trace := s.trace ++ if s.pwrCtrlEn then [.ctrlLine .sleep, .delay settleTime] else [] } := by
  cases h : s.pwrCtrlEn <;>
    simp [closing, enterSleep, Plan.after, Act.perform, State.goto, State.driveCtrl, State.startDelay, State.emit,
      State.elapse, State.finish, State.resultAfter, State.pendingAt, h]

/-- A read command accepted with data in the queue comes to its first byte in Reading, the transceiver in Normal if
power control is enabled (R105, R106, R107). -/
theorem run_to_reading (s : State) (len : Byte) (p empty avail : Plan) (h : s.rxQueue ≠ []) :
    (Plan.after (enterNormal s.pwrCtrlEn ++ [.goto .poll]) (.poll empty avail)).run
        (s.issue .powerUp 0#8 len false p) =
      avail.run { s with
        opId := 0#8, opLen := len, opMode := false, done := false, win := [], seq := .reading, timer := 0#16,
        xcvr := if s.pwrCtrlEn then .normal else s.xcvr, ctrl := if s.pwrCtrlEn then .normal else s.ctrl,
        trace := s.trace ++ (if s.pwrCtrlEn then [.ctrlLine .normal, .delay settleTime] else []) ++ [.rxAvail true] } := by
  have hq : s.rxQueue.isEmpty = false := by simpa using h
  rw [← Plan.run_plan avail _ p]
  cases hp : s.pwrCtrlEn <;>
    simp [Plan.run, enterNormal, Plan.after, Act.perform, State.issue, State.goto, State.driveCtrl, State.startDelay,
      State.emit, State.elapse, State.pendingAt, State.answerPoll, hq, hp]

/-- Bytes with RXBUF destinations from index `j` on. -/
def streamPairs : Nat → List Byte → List (RxDest × Byte)
  | _, [] => []
  | j, b :: bs => (.rxbuf (BitVec.ofNat 8 j), b) :: streamPairs (j + 1) bs

theorem streamPairs_snd : ∀ (j : Nat) (bs : List Byte), (streamPairs j bs).map Prod.snd = bs
  | _, [] => rfl
  | j, b :: bs => by rw [streamPairs, List.map_cons, streamPairs_snd (j + 1) bs]

theorem streamPairs_fst : ∀ (j : Nat) (bs : List Byte),
    (streamPairs j bs).map Prod.fst = (List.range' j bs.length).map fun i => .rxbuf (BitVec.ofNat 8 i)
  | _, [] => rfl
  | j, b :: bs => by
    rw [streamPairs, List.map_cons, streamPairs_fst (j + 1) bs, List.length_cons, List.range'_succ, List.map_cons]

/-- The destinations of a stream read split at the bytes there are. -/
theorem streamDests_split (k n : Nat) :
    streamDests (k + n) =
      ((List.range' 0 k).map fun i => .rxbuf (BitVec.ofNat 8 i)) ++
        (List.range' k n).map fun i => .rxbuf (BitVec.ofNat 8 i) := by
  rw [streamDests, List.range_eq_range', ← List.map_append]
  congr 1
  have := @List.range'_append_1 0 k n
  rw [Nat.zero_add] at this
  exact this.symm

/-- Taking bytes straight into RXBUF from index `j` on (R106). -/
theorem State.takeAll_stream :
    ∀ (j : Nat) (bs : List Byte) (q : List Byte) (s : State), s.rxQueue = bs ++ q → j + bs.length ≤ 256 →
      s.takeAll (streamPairs j bs) q =
        { s with
          rxQueue := q, mem := Memory.writeBytes s.mem (0x200 + j) bs, trace := s.trace ++ bs.map .rxByte }
  | _, [], q, s, h, _ => by
    have h : s.rxQueue = q := h
    simp [streamPairs, State.takeAll, Memory.writeBytes, ← h]
  | j, b :: bs, q, s, _, hj => by
    rw [List.length_cons] at hj
    have ha : rxAddr (BitVec.ofNat 8 j) = 0x200 + j := by
      simp only [rxAddr, BitVec.toNat_ofNat]
      omega
    rw [streamPairs, State.takeAll, State.takeAll_stream (j + 1) bs q _ ?_ (by omega)]
    · simp [State.takeByte, State.emit, Memory.writeBytes, ha, Nat.add_assoc]
    · rw [streamPairs_snd]
      rfl

/-- The destinations of a framed read are the window's, one for each byte. -/
theorem windowDests_split (w : List Byte) (n : Nat) :
    List.replicate (w.length + n) RxDest.window =
      (w.map fun b => (RxDest.window, b)).map Prod.fst ++ List.replicate n .window := by
  rw [List.replicate_add, List.map_map]
  congr 1
  exact List.map_const'.symm

/-- The verdict spelled out: the identifier position equals `ident`, and the trailing byte is the checksum of the
payload positions (R87, R89). -/
theorem State.windowOK_iff (s : State) :
    s.windowOK = true ↔
      s.win[1]? = some s.ident ∧ s.win[s.opLen.toNat + 2]? = some (cks (windowPayload s.win s.opLen.toNat)) := by
  simp only [State.windowOK, windowIdOK, cksOK, Bool.and_eq_true, beq_iff_eq]
  refine and_congr_left fun _ => ?_
  cases s.win[1]? <;> simp [idOK]

end Sys2Proof.Machine
end

