-- ==== Sys2Proof/Laws/Encoding.lean ====
section
/-! SUPPORT. The fields of an assembled word are the fields it was assembled from, and a word is assembled from its
fields (R55, R63). -/

namespace Sys2Proof

theorem opcOf_assemble (opc id len : Byte) (mode : Bool) : opcOf (assemble opc id len mode) = opc := by
  refine BitVec.eq_of_getLsbD_eq fun k hk => ?_
  simp only [opcOf, assemble, BitVec.getLsbD_extractLsb', BitVec.getLsbD_or, BitVec.getLsbD_setWidth,
    BitVec.getLsbD_shiftLeft]
  simp [hk, show k < 16 by omega, show k < 24 by omega, show k < 32 by omega]

theorem idOf_assemble (opc id len : Byte) (mode : Bool) : idOf (assemble opc id len mode) = id := by
  refine BitVec.eq_of_getLsbD_eq fun k hk => ?_
  simp only [idOf, assemble, BitVec.getLsbD_extractLsb', BitVec.getLsbD_or, BitVec.getLsbD_setWidth,
    BitVec.getLsbD_shiftLeft]
  simp [hk, show 8 + k < 16 by omega, show 8 + k < 24 by omega, show 8 + k < 32 by omega, show k < 32 by omega]

theorem lenOf_assemble (opc id len : Byte) (mode : Bool) : lenOf (assemble opc id len mode) = len := by
  refine BitVec.eq_of_getLsbD_eq fun k hk => ?_
  simp only [lenOf, assemble, BitVec.getLsbD_extractLsb', BitVec.getLsbD_or, BitVec.getLsbD_setWidth,
    BitVec.getLsbD_shiftLeft]
  simp [hk, show 16 + k < 24 by omega, show 16 + k < 32 by omega, show 16 + k - 8 = 8 + k by omega,
    show k < 32 by omega, BitVec.getLsbD_of_ge opc (16 + k) (by omega)]

theorem modeOf_assemble (opc id len : Byte) (mode : Bool) : modeOf (assemble opc id len mode) = mode := by
  simp [modeOf, assemble]

theorem highOf_assemble (opc id len : Byte) (mode : Bool) : highOf (assemble opc id len mode) = 0#7 := by
  refine BitVec.eq_of_getLsbD_eq fun k hk => ?_
  simp only [highOf, assemble, BitVec.getLsbD_extractLsb', BitVec.getLsbD_or, BitVec.getLsbD_setWidth,
    BitVec.getLsbD_shiftLeft, BitVec.getLsbD_ofBool]
  simp [show 25 + k - 24 = 1 + k by omega, show 25 + k - 16 = 9 + k by omega, show 25 + k - 8 = 17 + k by omega,
    BitVec.getLsbD_of_ge opc (25 + k) (by omega), BitVec.getLsbD_of_ge id (17 + k) (by omega),
    BitVec.getLsbD_of_ge len (9 + k) (by omega)]

/-- A word whose bits 31:25 are 0 is assembled from its four fields. -/
theorem assemble_fields (w : Word) (h : highOf w = 0#7) :
    assemble (opcOf w) (idOf w) (lenOf w) (modeOf w) = w := by
  refine BitVec.eq_of_getLsbD_eq fun k hk => ?_
  have hh : 25 ≤ k → w.getLsbD k = false := fun h' => by
    have := congrArg (·.getLsbD (k - 25)) h
    simpa [highOf, show k - 25 < 7 by omega, show 25 + (k - 25) = k by omega] using this
  simp only [opcOf, idOf, lenOf, modeOf, assemble, BitVec.getLsbD_extractLsb', BitVec.getLsbD_or,
    BitVec.getLsbD_setWidth, BitVec.getLsbD_shiftLeft, BitVec.getLsbD_ofBool]
  interval_cases k <;> simp_all

end Sys2Proof
end

