-- ==== Sys2Proof/Laws/PerInstr.lean ====
section
/-! SUPPORT. Per-instruction laws: the word of a command is one of the words its row of R59 gives it. -/

namespace Sys2Proof.Laws.EncodedUnderMask

/-- The encoded word under the row's mask is the row's match (R59). -/
def Statement (i : Instr) : Prop := encode i &&& i.row.mask = i.row.value

theorem constructM (mode : Bool) : Statement (.constructM mode) := by
  unfold Statement
  cases mode <;> decide

theorem constructS (mode : Bool) (id : Byte) : Statement (.constructS mode id) := by
  refine BitVec.eq_of_getLsbD_eq fun k hk => ?_
  cases mode <;> interval_cases k <;> simp [encode, assemble, Instr.row]

theorem cfgRx : Statement .cfgRx := by
  unfold Statement
  decide

theorem write (id len : Byte) : Statement (.write id len) := by
  refine BitVec.eq_of_getLsbD_eq fun k hk => ?_
  interval_cases k <;> simp [encode, assemble, Instr.row]

theorem writeReq (id : Byte) : Statement (.writeReq id) := by
  refine BitVec.eq_of_getLsbD_eq fun k hk => ?_
  interval_cases k <;> simp [encode, assemble, Instr.row]

theorem writeResp (len : Byte) : Statement (.writeResp len) := by
  refine BitVec.eq_of_getLsbD_eq fun k hk => ?_
  interval_cases k <;> simp [encode, assemble, Instr.row]

theorem writeStream (len : Byte) : Statement (.writeStream len) := by
  refine BitVec.eq_of_getLsbD_eq fun k hk => ?_
  interval_cases k <;> simp [encode, assemble, Instr.row]

theorem read (len : Byte) : Statement (.read len) := by
  refine BitVec.eq_of_getLsbD_eq fun k hk => ?_
  interval_cases k <;> simp [encode, assemble, Instr.row]

theorem readStream (len : Byte) : Statement (.readStream len) := by
  refine BitVec.eq_of_getLsbD_eq fun k hk => ?_
  interval_cases k <;> simp [encode, assemble, Instr.row]

end Sys2Proof.Laws.EncodedUnderMask
end

