-- ==== Sys2Proof/Tests/Slice0.lean ====
section
/-! SUPPORT. Tests: words written out from R59, an ill-formed command for each check, and one step on small states, with
the expected results of spec/95_test_vectors.md (the vector's name is in each comment). -/

namespace Sys2Proof.Tests

open Sys2Proof Sys2Proof.Machine Sys2Proof.Spec

/-! ### WellFormed refuses what R61 reserves -/

theorem test_ill_constructM_mode : (Instr.constructM false).wellFormed = false := by decide
theorem test_ill_constructS_mode : (Instr.constructS false 0x10#8).wellFormed = false := by decide
theorem test_ill_write_len : (Instr.write 0x10#8 9#8).wellFormed = false := by decide
theorem test_ill_writeResp_len : (Instr.writeResp 9#8).wellFormed = false := by decide
theorem test_ill_read_len : (Instr.read 9#8).wellFormed = false := by decide
theorem test_well_stream_len : (Instr.writeStream 255#8).wellFormed = true := by decide

/-! ### Decoding: MODE[24], LEN[23:16], ID[15:8], OPC[7:0], bits 31:25 zero -/

/-- Y1: 0000000 1 00000000 00000000 00000001 -/
theorem test_decode_constructM : decode 0b00000001000000000000000000000001#32 = .ok (.constructM true) := by decide
/-- Y2: 0000000 1 00000000 00010000 00000010 -/
theorem test_decode_constructS : decode 0b00000001000000000001000000000010#32 = .ok (.constructS true 0x10#8) := by decide
/-- Y6: 0000000 0 00000000 00000000 00000011 -/
theorem test_decode_cfgRx : decode 0b00000000000000000000000000000011#32 = .ok .cfgRx := by decide
/-- W1: 0000000 0 00000011 00010000 00010000 -/
theorem test_decode_write : decode 0b00000000000000110001000000010000#32 = .ok (.write 0x10#8 3#8) := by decide
/-- W6: 0000000 0 00000000 00010000 00010001 -/
theorem test_decode_writeReq : decode 0b00000000000000000001000000010001#32 = .ok (.writeReq 0x10#8) := by decide
/-- W8: 0000000 0 00000001 00000000 00010010 -/
theorem test_decode_writeResp : decode 0b00000000000000010000000000010010#32 = .ok (.writeResp 1#8) := by decide
/-- W14: 0000000 0 00001100 00000000 00010011 -/
theorem test_decode_writeStream : decode 0b00000000000011000000000000010011#32 = .ok (.writeStream 12#8) := by decide
/-- R9: 0000000 0 00000011 00000000 00100000 -/
theorem test_decode_read : decode 0b00000000000000110000000000100000#32 = .ok (.read 3#8) := by decide
/-- X19: 0000000 0 11111111 00000000 00100001 -/
theorem test_decode_readStream : decode 0b00000000111111110000000000100001#32 = .ok (.readStream 255#8) := by decide
/-- X1, X3: reserved operation codes -/
theorem test_decode_opcode : decode 0x00000000#32 = .error .opcode ∧ decode 0x000000FF#32 = .error .opcode := by decide
/-- X4, X5: a bit of 31:25 -/
theorem test_decode_high : decode 0x02000010#32 = .error .highBits ∧ decode 0x80000003#32 = .error .highBits := by decide
/-- X6 to X12: a field the format does not use -/
theorem test_decode_unused :
    [0x00001003#32, 0x01000010#32, 0x00030011#32, 0x00001012#32, 0x00000120#32, 0x01030001#32, 0x01011002#32].map decode
      = List.replicate 7 (.error .unusedField) := by decide
/-- R63's two examples -/
theorem test_encode_examples :
    encode (.write 0x10#8 3#8) = 0x00031010#32 ∧ encode (.constructS true 0x10#8) = 0x01001002#32 := by decide
/-- R59's rows are pairwise disjoint -/
theorem test_rows_disjoint :
    rows.Pairwise (fun r r' => (r.value ^^^ r'.value) &&& r.mask &&& r'.mask ≠ 0#32) := by decide
theorem test_tableWord : decodeTableWord 32 0x00031010 = some (.write 0x10#8 3#8) := by decide

/-! ### Checksum, checks, timing -/

/-- K1, K5, K7, K8, K9, K15, K17, K18 -/
theorem test_cks :
    [[], [0xAA#8], [0xFE#8], [0xFF#8], [1#8, 2#8, 3#8], [0xFF#8, 0xFF#8],
     [0x10#8, 0x20#8, 0x30#8, 0x40#8, 0x50#8, 0x60#8, 0x70#8, 0x80#8], List.replicate 8 0xFF#8].map cks
      = [0xFE#8, 0x54#8, 0x00#8, 0xFF#8, 0xF8#8, 0x00#8, 0xBE#8, 0x06#8] := by decide
/-- V1, V3, V5, V6, V11, V12 -/
theorem test_cksOK :
    cksOK [0x55#8, 0x10#8, 0xAA#8, 0x54#8] 1 = true ∧ cksOK [0x55#8, 0x10#8, 0xAA#8, 0x55#8] 1 = false ∧
    cksOK [0x55#8, 0x10#8, 0xFE#8] 0 = true ∧ cksOK [0x55#8, 0x10#8, 0xFF#8] 0 = false ∧
    cksOK ([0x55#8, 0x3C#8] ++ List.replicate 8 0xFF#8 ++ [0x06#8]) 8 = true ∧
    cksOK ([0x55#8, 0x3C#8] ++ List.replicate 8 0xFF#8 ++ [0x05#8]) 8 = false := by decide
/-- V8, V15 -/
theorem test_idOK : idOK 0x10#8 0x10#8 = true ∧ idOK 0x10#8 0x50#8 = false ∧ idOK 0x10#8 0x55#8 = false := by decide
/-- T1, T2, T3, T5, T6 -/
theorem test_breakDuration :
    [0#8, 1#8, 13#8, 26#8, 255#8].map breakDuration = [0#16, 96#16, 1248#16, 2496#16, 24480#16] := by decide
/-- R21: TIMING -/
theorem test_timing : timingWord = 0xC8140D60#32 := by decide
/-- R35: bit 0 first -/
theorem test_wireBits : wireBits 0x55#8 = [true, false, true, false, true, false, true, false] := by decide

/-! ### Small states and the views the tests check -/

/-- A powered instance right after reset, its free values replaced (section 2.7). -/
def fresh : State := { State.reset with role := .master, ident := 0#8, pwrCtrlEn := true, txDrain := false, rxQueue := [], txPending := [] }

/-- A Slave with identifier 0x10, constructed and configured (section 2.6). -/
def slave : State :=
  { fresh with role := .slave, ident := 0x10#8, constructed := true, rxConfigured := true }

/-- TXBUF[0 ..] = 01 02 03 04. -/
def loaded : State :=
  { slave with mem := [(0x100, 1#8), (0x101, 2#8), (0x102, 3#8), (0x103, 4#8)], rxConfigured := false }

/-- RXBUF[0 .. 3] = E0 E1 E2 E3 and the given RX queue. -/
def hearing (q : List Byte) : State :=
  { slave with mem := [(0x200, 0xE0#8), (0x201, 0xE1#8), (0x202, 0xE2#8), (0x203, 0xE3#8)], rxQueue := q }

/-- The answer is a next state of which `f` is `v`. -/
def next {α : Type} [DecidableEq α] (o : Answer) (f : State → α) (v : α) : Bool :=
  match o with
  | .next t => decide (f t = v)
  | .fault _ => false
  | .refused _ => false

/-- The answer is this refusal. -/
def refuses (o : Answer) (r : Refusal) : Bool :=
  match o with
  | .next _ => false
  | .fault _ => false
  | .refused r' => decide (r' = r)

def up : List Event := [.ctrlLine .normal, .delay 20#16]
def down : List Event := [.ctrlLine .sleep, .delay 20#16]
def brk : List Event :=
  [.txOverride .dominant, .delay 1248#16, .txOverride .recessive, .delay 96#16, .txOverride .release]

/-! ### System commands -/

/-- Y1 -/
theorem test_constructM :
    next (exec (.constructM true) fresh) (fun t => (t.trace, t.statusWord, t.role, t.xcvr, t.seq))
      ([.delay 200#16], 0x42#32, .master, .sleep, .idle) = true := by decide
/-- X13, X21 -/
theorem test_constructM_refused :
    refuses (exec (.constructM false) fresh) .modeFalse = true ∧
    refuses (exec (.constructM true) slave) .alreadyConstructed = true := by decide
/-- Y2 -/
theorem test_constructS :
    next (exec (.constructS true 0x10#8) fresh) (fun t => (t.trace, t.statusWord, t.nodeWord, t.ctrl))
      (.delay 200#16 :: up, 0x52#32, 0x110#32, .normal) = true := by decide
/-- Y3 -/
theorem test_constructS_unpowered :
    next (exec (.constructS true 0x10#8) { fresh with pwrCtrlEn := false })
      (fun t => (t.trace, t.statusWord, t.nodeWord, t.xcvr)) ([.delay 200#16], 0x42#32, 0x110#32, .sleep) = true := by
  decide
/-- Y7 -/
theorem test_cfgRx :
    next (exec .cfgRx { slave with rxConfigured := false, xcvr := .normal, ctrl := .normal })
      (fun t => (t.trace, t.statusWord, t.xport)) ([.xportConfig 10417], 0x72#32, some 10417) = true := by decide
/-- R118 (a) -/
theorem test_cfgRx_refused : refuses (exec .cfgRx fresh) .notConstructed = true := by decide

/-! ### Write commands -/

/-- W1, W5 -/
theorem test_write :
    next (exec (.write 0x10#8 3#8) loaded) (fun t => (t.trace, t.statusWord, t.mem, t.txovr))
      (up ++ brk ++ [.txByte 0x55#8, .txByte 0x10#8, .txByte 1#8, .txByte 2#8, .txByte 3#8, .txByte 0xF8#8] ++ down,
       0x46#32, loaded.mem, .release) = true := by decide
/-- X15, X20 -/
theorem test_write_refused :
    refuses (exec (.write 0x10#8 9#8) loaded) .payloadTooLong = true ∧
    refuses (exec (.write 0x10#8 3#8) fresh) .notConstructed = true := by decide
/-- W6 -/
theorem test_writeReq :
    next (exec (.writeReq 0x10#8) loaded) (fun t => (t.trace, t.statusWord))
      (up ++ brk ++ [.txByte 0x55#8, .txByte 0x10#8] ++ down, 0x46#32) = true := by decide
/-- W16 -/
theorem test_writeResp_unpowered :
    next (exec (.writeResp 0#8) { loaded with pwrCtrlEn := false }) (fun t => t.trace) [.txByte 0xFE#8] = true := by
  decide
/-- W10 -/
theorem test_writeResp :
    next (exec (.writeResp 2#8) { slave with mem := [(0x100, 0x12#8), (0x101, 0x34#8)] })
      (fun t => (t.trace, t.statusWord))
      (up ++ [.txByte 0x12#8, .txByte 0x34#8, .txByte 0xB8#8] ++ down, 0x66#32) = true := by decide
/-- W12 -/
theorem test_writeStream_empty :
    next (exec (.writeStream 0#8) loaded) (fun t => (t.trace, delayTotal t.trace)) (up ++ brk ++ down, 1384) = true := by
  decide
/-- W13 -/
theorem test_writeStream :
    next (exec (.writeStream 6#8)
        { slave with mem := [(0x100, 0x55#8), (0x101, 0x10#8), (0x102, 1#8), (0x103, 2#8), (0x104, 3#8), (0x105, 0xF8#8)] })
      (fun t => t.trace)
      (up ++ brk ++ [.txByte 0x55#8, .txByte 0x10#8, .txByte 1#8, .txByte 2#8, .txByte 3#8, .txByte 0xF8#8] ++ down)
      = true := by decide

/-! ### Read commands -/

/-- R9, R11 -/
theorem test_read :
    next (exec (.read 3#8) (hearing [0x55#8, 0x10#8, 1#8, 2#8, 3#8, 0xF8#8, 0x99#8]))
      (fun t => ((t.trace, t.statusWord), (t.mem, t.rxQueue)))
      ((up ++ [.rxAvail true, .rxByte 0x55#8, .rxByte 0x10#8, .rxByte 1#8, .rxByte 2#8, .rxByte 3#8, .rxByte 0xF8#8] ++ down,
       0x66#32), ([(0x200, 1#8), (0x201, 2#8), (0x202, 3#8), (0x203, 0xE3#8)], [0x99#8])) = true := by decide
/-- R12: the queue is left misaligned -/
theorem test_read_failed :
    next (exec (.read 1#8) (hearing [0x55#8, 0x10#8, 1#8, 2#8, 3#8, 0xF8#8]))
      (fun t => (t.statusWord, t.rxQueue, t.draws)) (0x6E#32, [3#8, 0xF8#8], 3) = true := by decide
/-- R5 -/
theorem test_read_noData :
    next (exec (.read 1#8) (hearing [])) (fun t => (t.trace, t.statusWord, t.mem))
      (up ++ [.rxAvail false] ++ down, 0x62#32, (hearing []).mem) = true := by decide
/-- R14, program 4: the command waits in Reading -/
theorem test_read_waits :
    next (exec (.read 1#8) { hearing [3#8, 0xF8#8] with result := .validationFailed, done := true })
      (fun t => (t.seq, t.statusWord, t.rxQueue, t.win)) (.reading, 0x7D#32, [], [3#8, 0xF8#8]) = true := by decide
/-- X17, X22 -/
theorem test_read_refused :
    refuses (exec (.read 9#8) (hearing [])) .payloadTooLong = true ∧
    refuses (exec (.read 1#8) loaded) .rxNotConfigured = true := by decide
/-- R15 -/
theorem test_readStream :
    next (exec (.readStream 2#8) (hearing [0xDE#8, 0xAD#8])) (fun t => ((t.trace, t.statusWord), (t.mem, t.rxQueue)))
      ((up ++ [.rxAvail true, .rxByte 0xDE#8, .rxByte 0xAD#8] ++ down, 0x66#32),
       ([(0x200, 0xDE#8), (0x201, 0xAD#8), (0x202, 0xE2#8), (0x203, 0xE3#8)], [])) = true := by decide
/-- R17 -/
theorem test_readStream_zero :
    next (exec (.readStream 0#8) (hearing [0x99#8])) (fun t => (t.statusWord, t.rxQueue)) (0x66#32, [0x99#8]) = true := by
  decide

/-! ### The host port and the step -/

/-- R36: a reserved number reads 0; R21: TXBUF reads its byte; CMD reads 0. -/
theorem test_hostRead :
    (hostRead 0x300#10 loaded).rdata = 0#32 ∧ (hostRead 0x101#10 loaded).rdata = 2#32 ∧
    (hostRead 0x000#10 loaded).rdata = 0#32 ∧ (hostRead 0x1FF#10 loaded).rdata = 0#32 ∧
    (hostRead 0x203#10 (hearing [])).rdata = 0xE3#32 ∧ (hostRead 0x003#10 loaded).rdata = 0xC8140D60#32 := by decide
/-- R21: a write to TXBUF stores the low byte, a write to STATUS is ignored, and U1. -/
theorem test_hostWrite :
    next (hostWrite 0x1FF#10 0xFFFFFF7E#32 slave) (fun t => t.mem) [(0x1FF, 0x7E#8)] = true ∧
    next (hostWrite 0x001#10 1#32 slave) id slave = true ∧
    refuses (hostWrite 0x100#10 1#32 { slave with seq := .reading }) .busy = true := by decide
/-- A raw write of CMD starts the command and returns at once: BUSY (R45). -/
theorem test_hostWrite_cmd :
    next (hostWrite 0x000#10 0x00000011#32 slave) (fun t => (t.statusWord, t.seq)) (0x61#32, .powerUp) = true := by decide
/-- The command line of R64, and a reserved word. -/
theorem test_step_command :
    next (step { fresh with inputs := [.command 0x01000001#32] }) (fun t => (t.statusWord, t.inputs)) (0x42#32, []) = true ∧
    refuses (step { fresh with inputs := [.command 0x00000030#32] }) (.reservedWord .opcode) = true := by decide
/-- R64: a command line leaves STATUS as the host's last read; Y1, and R14 with BUSY = 1, when the WAIT goes on. -/
theorem test_step_wait :
    next (step { fresh with inputs := [.command 0x01000001#32], rdata := 0xE0#32 }) (fun t => (t.rdata, t.inWait))
      (0x42#32, false) = true ∧
    next (step { hearing [3#8, 0xF8#8] with inputs := [.command 0x00010020#32] }) (fun t => (t.rdata, t.inWait))
      (0x71#32, true) = true := by decide
/-- At rest with nothing to come the block stays in Idle (R141). -/
theorem test_step_idle : next (step fresh) id fresh = true := by decide
/-- R14 continued: the environment appends AA 54, the block takes them. -/
theorem test_step_arrive :
    next (step { hearing [] with inputs := [.other (.arrive 0xAA#8)] }) (fun t => (t.rxQueue, t.inputs)) ([0xAA#8], [])
      = true := by decide
/-- The table's word is what the next step runs. -/
theorem test_withFetchWord :
    next (step (fresh.withFetchWord 32 0x01001002)) (fun t => t.nodeWord) 0x110#32 = true := by decide
/-- R78 on the trace of W1, and the invariant's timing view refuses a missing delay. -/
theorem test_timed :
    timed (up ++ brk ++ [.txByte 0x55#8] ++ down) = true ∧ timed [.ctrlLine .normal, .txByte 0x55#8] = false := by decide
/-- R32: in the break the line is driven at the dominant level. -/
theorem test_pins : ({ slave with txovr := .dominant }).pins = ⟨true, some false, false, none, false, none, 0#32⟩ := by
  decide

/-! ### Witnesses: concrete states and operands that meet the hypotheses of a statement, clause by clause, at the ends of
a range where there is one -/

/-- An answer seen to be a next state is one. -/
theorem runs_of {o : Answer} (h : next o (fun _ => true) true = true) : ∃ t, o = .next t := by
  cases o with
  | next t => exact ⟨t, rfl⟩
  | fault f => cases h
  | refused r => cases h

/-- A READ of size 1 held in Reading, the window so far empty (R108). -/
def held (q : List Byte) : State :=
  { (hearing q).issue .reading 0#8 1#8 false (Plan.taking (windowDests 1) (.judge .stop .stop)) with timer := 0#16 }

theorem witness_EncodeOfDecode : decode 0x00FFFF10#32 = .ok (.write 0xFF#8 0xFF#8) := by decide
theorem witness_DecodeAcceptsTheTable :
    rows.all (fun r => r.hits r.value && r.hits (r.value ||| ~~~r.mask)) = true ∧
    decode 0x01000001#32 = .ok (.constructM true) := by decide
theorem witness_StepRunsDecodedCommand :
    ({ fresh with inputs := [.command 0x01000001#32] }).inputs = .command 0x01000001#32 :: [] ∧
    decode 0x01000001#32 = .ok (.constructM true) ∧
    next (exec (.constructM true) fresh) (fun _ => true) true = true ∧
    refuses (exec (.constructM true) slave) .alreadyConstructed = true ∧
    (fresh.inputs = [] ∧ fresh.inWait = false) ∧ ((held []).enterWait.inputs = [] ∧ (held []).enterWait.inWait = true) := by
  decide
theorem witness_ReservedWordRefused :
    fresh.seq = .idle ∧ (∀ r ∈ rows, r.hits 0x00000030#32 = false) ∧ (∀ r ∈ rows, r.hits 0xFFFFFFFF#32 = false) ∧
    ({ fresh with inputs := [.command 0x00000030#32] }).inputs = .command 0x00000030#32 :: [] := by decide
theorem witness_CommandRunsExactlyWhenAllowed :
    (loaded.seq = .idle ∧ allowed loaded (.write 0x10#8 8#8) = true) ∧
    ¬ (loaded.seq = .idle ∧ allowed loaded (.write 0x10#8 9#8) = true) ∧
    ¬ ((held []).seq = .idle ∧ allowed (held []) .cfgRx = true) := by decide
theorem witness_BusyBlockRefusesCommands :
    (held []).seq ≠ .idle ∧ 0x100 ≤ (0x100#10).toNat ∧ (0x1FF#10).toNat < 0x200 := by decide
theorem witness_RefusalsAreNamed :
    (fresh.seq = .idle ∧ fresh.constructed = false) ∧ (slave.seq = .idle ∧ slave.constructed = true) ∧
    (loaded.constructed = true ∧ loaded.rxConfigured = false) ∧ 8 < (9#8).toNat ∧ 8 < (255#8).toNat ∧
    slave.rxConfigured = true := by decide
theorem witness_ResetInputAbandonsTheCommand :
    ({ held [] with inputs := [.other .reset] }).inputs = .other .reset :: [] := by decide

/-- The invariant in a state at rest, and in one inside a command. -/
theorem witness_inv_rest : ({ fresh with inputs := [.command 0x01001002#32] }).Inv :=
  ⟨by decide, by decide, by decide, by decide, by decide, by decide, by decide, by decide, by decide⟩
theorem witness_inv_busy : (loaded.issue .powerUp 0x10#8 0#8 false (planWriteReq true)).Inv :=
  ⟨by decide, by decide, by decide, by decide, by decide, by decide, by decide, by decide, by decide⟩
theorem witness_StepKeepsInv :
    (∃ s t : State, s.Inv ∧ s.seq = .powerUp ∧ step s = .next t) ∧
    ∃ s t : State, s.Inv ∧ s.inputs = [.command 0x01001002#32] ∧ step s = .next t :=
  ⟨⟨_, _, witness_inv_busy, by decide, rfl⟩,
   (runs_of (o := step { fresh with inputs := [.command 0x01001002#32] }) (by decide)).elim fun t h =>
     ⟨_, t, witness_inv_rest, rfl, h⟩⟩
theorem witness_IdentityIsImmutable :
    slave.constructed = true ∧ slave.inputs.head? ≠ some (.other .reset) ∧ next (step slave) (fun _ => true) true = true := by
  decide
theorem witness_StaticInputsNeverChange : ∃ t, step slave = .next t := runs_of (by decide)
theorem witness_TraceOnlyGrows : ∃ t, step { loaded with inputs := [.command 0x00000013#32] } = .next t :=
  runs_of (by decide)
theorem witness_BusActivityOnlyInNormal :
    ∃ s t : State, s.Inv ∧ s.pwrCtrlEn = true ∧ step s = .next t :=
  ⟨_, _, witness_inv_busy, by decide, rfl⟩
theorem witness_DisabledPowerControlDrivesNothing :
    ({ loaded with pwrCtrlEn := false }).pwrCtrlEn = false ∧
    ∃ t, exec (.writeReq 0x10#8) { loaded with pwrCtrlEn := false } = .next t := ⟨rfl, runs_of (by decide)⟩
theorem witness_CommandsKeepTiming : ∃ t, exec (.writeReq 0x10#8) loaded = .next t := runs_of (by decide)
theorem witness_CommandDurations :
    (∃ t, exec (.read 1#8) (hearing []) = .next t) ∧
    next (exec (.read 1#8) (hearing [])) (fun t => t.seq) .idle = true ∧
    next (exec (.constructS true 0x10#8) fresh) (fun t => t.seq) .idle = true :=
  ⟨runs_of (by decide), by decide, by decide⟩
theorem witness_SequencerReachesTheCall :
    loaded.inputs = [] ∧ decode 0x00001011#32 = .ok (.writeReq 0x10#8) ∧
    ∃ t, exec (.writeReq 0x10#8) loaded = .next t := ⟨rfl, by decide, runs_of (by decide)⟩
/-- Each clause of ReadStateMachine. -/
theorem witness_ReadStateMachine :
    (held []).timer = 0#16 ∧
    (let s := { held [] with plan := .poll .stop .stop }; s.timer = 0#16 ∧ s.plan = .poll .stop .stop ∧ s.rxQueue = []) ∧
    (let s := { held [1#8] with plan := .poll .stop .stop }; s.plan = .poll .stop .stop ∧ s.rxQueue ≠ []) ∧
    (held [1#8, 2#8]).plan = .take .window (Plan.taking (List.replicate 3 .window) (.judge .stop .stop)) ∧
    (held [1#8, 2#8]).rxQueue = 1#8 :: [2#8] ∧
    (let s := { held [] with plan := .judge .stop .stop, win := [0x55#8, 0x10#8, 0xAA#8, 0x54#8] }
     s.plan = .judge .stop .stop ∧ s.win[1]? = some s.ident ∧
      s.win[s.opLen.toNat + 2]? = some (cks ((s.win.drop 2).take s.opLen.toNat))) ∧
    (let s := { held [] with plan := .judge .stop .stop, win := [0x55#8, 0x11#8, 0xAA#8, 0x54#8] }
     s.plan = .judge .stop .stop ∧ ¬ s.win[1]? = some s.ident) ∧
    ({ held [] with plan := .act (.ret (some .success)) .stop }).plan = .act (.ret (some .success)) .stop := by decide
theorem witness_TimerHoldsTheSequencer :
    ({ held [] with timer := 1#16 }).timer ≠ 0#16 ∧ ({ held [] with timer := 1248#16 }).timer ≠ 0#16 ∧
    (let s := { held [] with plan := .act (.delay 20#16) .stop }; s.timer = 0#16 ∧ s.plan = .act (.delay 20#16) .stop) := by
  decide
theorem witness_WaitingReadStays :
    (held []).timer = 0#16 ∧ (held []).rxQueue = [] ∧
    (held []).plan = .take .window (Plan.taking (List.replicate 3 .window) (.judge .stop .stop)) := by decide
theorem witness_ChecksumFormula :
    ([254#8].map BitVec.toNat).sum % 256 = 254 ∧ ([0xFF#8, 0xFF#8].map BitVec.toNat).sum % 256 = 254 ∧
    ([255#8].map BitVec.toNat).sum % 256 = 255 := by decide
theorem witness_ChecksumLaws : [1#8, 2#8, 3#8].Perm [3#8, 2#8, 1#8] := by decide
theorem witness_BreakDurationExact : (13#8).toNat + (242#8).toNat < 256 ∧ (0#8).toNat + (0#8).toNat < 256 := by decide
/-- Both ends of the copied range: n = 1, index 0 copied and index 1 not; n = 0, nothing copied. -/
theorem witness_WindowToBuffer :
    (let s := { held [] with win := [0x55#8, 0x10#8, 0xAA#8, 0x54#8] }
     Memory.wf s.mem = true ∧ s.win.length = s.opLen.toNat + 3 ∧ (0#8).toNat + 2 < s.win.length ∧
      (0#8).toNat < s.opLen.toNat ∧ s.opLen.toNat ≤ (1#8).toNat) ∧
    (let s := { held [] with opLen := 0#8, win := [0x55#8, 0x10#8, 0xFE#8] }
     Memory.wf s.mem = true ∧ s.win.length = s.opLen.toNat + 3 ∧ s.opLen.toNat ≤ (0#8).toNat) := by decide
theorem witness_ConstructMasterResult : Fresh fresh := by decide
theorem witness_ConstructSlaveResult : Fresh { fresh with pwrCtrlEn := false } := by decide
theorem witness_ConfigureReceiveResult : Ready slave := by decide
theorem witness_WriteResult : Ready loaded ∧ (0#8).toNat ≤ 8 ∧ (8#8).toNat ≤ 8 := by decide
theorem witness_WriteRequestResult : Ready { loaded with role := .master } := by decide
theorem witness_WriteResponseResult : Ready loaded ∧ (8#8).toNat ≤ 8 := by decide
theorem witness_WriteStreamResult : Ready loaded := by decide
theorem witness_WritesFrame :
    ∃ i s t, isWrite i ∧ exec i s = .next t :=
  (runs_of (o := exec (.writeResp 8#8) loaded) (by decide)).elim fun t h =>
    ⟨_, _, t, .inr (.inr (.inl ⟨_, rfl⟩)), h⟩
theorem witness_RequestAndResponseMakeAFrame :
    ∃ t₁ t₂ t, exec (.writeReq 0x10#8) loaded = .next t₁ ∧ exec (.writeResp 2#8) t₁ = .next t₂ ∧
      exec (.write 0x10#8 2#8) loaded = .next t :=
  (runs_of (o := exec (.write 0x10#8 2#8) loaded) (by decide)).elim fun t h => ⟨_, _, t, rfl, rfl, h⟩
theorem witness_StreamCanSpellAFrame :
    ∃ s s' t t' : State, s'.pwrCtrlEn = s.pwrCtrlEn ∧ (1#8).toNat ≤ 8 ∧
      s'.payload ((1#8).toNat + 3) = [0x55#8, 0x10#8] ++ s.payload (1#8).toNat ++ [cks (s.payload (1#8).toNat)] ∧
      exec (.write 0x10#8 1#8) s = .next t ∧ exec (.writeStream (1#8 + 3#8)) s' = .next t' :=
  ⟨loaded, { loaded with mem := [(0x100, 0x55#8), (0x101, 0x10#8), (0x102, 1#8), (0x103, 0xFD#8)] }, _, _, by decide,
    by decide, by decide, rfl, rfl⟩
theorem witness_ReadWithoutData :
    ReadyToRead (hearing []) ∧ (hearing []).rxQueue = [] ∧ (0#8).toNat ≤ 8 ∧ (8#8).toNat ≤ 8 := by decide
/-- R9's window and the empty payload (n = 0, R10's shape). -/
theorem witness_ReadAcceptsAWindow :
    (let w := [0x55#8, 0x10#8, 1#8, 2#8, 3#8, 0xF8#8]
     ReadyToRead (hearing (w ++ [0x99#8])) ∧ (3#8).toNat ≤ 8 ∧ Memory.wf (hearing (w ++ [0x99#8])).mem = true ∧
      (hearing (w ++ [0x99#8])).rxQueue = w ++ [0x99#8] ∧ w.length = (3#8).toNat + 3) ∧
    Passes (hearing []).ident [0x55#8, 0x10#8, 1#8, 2#8, 3#8, 0xF8#8] 3 ∧
    Passes (hearing []).ident [0x55#8, 0x10#8, 0xFE#8] 0 := by
  unfold Passes
  decide
/-- The identifier wrong, and the checksum wrong. -/
theorem witness_ReadRejectsAWindow :
    (let w := [0x55#8, 0x11#8, 0xAA#8, 0x54#8]
     ReadyToRead (hearing w) ∧ (1#8).toNat ≤ 8 ∧ Memory.wf (hearing w).mem = true ∧ (hearing w).rxQueue = w ++ [] ∧
      w.length = (1#8).toNat + 3) ∧
    ¬ Passes (hearing []).ident [0x55#8, 0x11#8, 0xAA#8, 0x54#8] 1 ∧
    ¬ Passes (hearing []).ident [0x55#8, 0x10#8, 0xAA#8, 0x55#8] 1 := by
  unfold Passes
  decide
/-- n = 2, and n = 0 with data in the queue. -/
theorem witness_ReadStreamCopies :
    (let s := hearing [0xDE#8, 0xAD#8]
     ReadyToRead s ∧ Memory.wf s.mem = true ∧ s.rxQueue = [0xDE#8, 0xAD#8] ++ [] ∧ s.rxQueue ≠ [] ∧
      [0xDE#8, 0xAD#8].length = (2#8).toNat) ∧
    (let s := hearing [0x99#8]
     s.rxQueue = [] ++ [0x99#8] ∧ s.rxQueue ≠ [] ∧ ([] : List Byte).length = (0#8).toNat) := by decide
/-- One byte short, for both reads. -/
theorem witness_ReadWaitsForBytes :
    (let s := hearing [0x55#8, 0x10#8]
     ReadyToRead s ∧ Memory.wf s.mem = true ∧ s.rxQueue ≠ [] ∧ (0#8).toNat ≤ 8 ∧ s.rxQueue.length < (0#8).toNat + 3 ∧
      s.rxQueue.length < (3#8).toNat) := by decide
theorem witness_ReadResumes :
    ∃ i n t, isRead i n ∧ [3#8, 0xF8#8] ≠ [] ∧ exec i { hearing [] with rxQueue := [3#8, 0xF8#8] } = .next t :=
  (runs_of (o := exec (.read 1#8) { hearing [] with rxQueue := [3#8, 0xF8#8] }) (by decide)).elim fun t h =>
    ⟨_, _, t, .inl rfl, by decide, h⟩
theorem witness_ReadsFrame : ∃ i n s t, isRead i n ∧ exec i s = .next t :=
  (runs_of (o := exec (.readStream 2#8) (hearing [0xDE#8, 0xAD#8])) (by decide)).elim fun t h =>
    ⟨_, _, _, t, .inr rfl, h⟩
/-- The bytes of W1, heard by the slave. -/
theorem witness_WriteThenReadRoundTrip :
    ∃ a', exec (.write 0x10#8 3#8) loaded = .next a' ∧
      txStream a'.trace = txStream loaded.trace ++ [0x55#8, 0x10#8, 1#8, 2#8, 3#8, 0xF8#8] ∧
      ReadyToRead (hearing [0x55#8, 0x10#8, 1#8, 2#8, 3#8, 0xF8#8, 0x99#8]) ∧
      (hearing [0x55#8, 0x10#8, 1#8, 2#8, 3#8, 0xF8#8, 0x99#8]).ident = 0x10#8 ∧
      Memory.wf (hearing [0x55#8, 0x10#8, 1#8, 2#8, 3#8, 0xF8#8, 0x99#8]).mem = true ∧
      (hearing [0x55#8, 0x10#8, 1#8, 2#8, 3#8, 0xF8#8, 0x99#8]).rxQueue =
        [0x55#8, 0x10#8, 1#8, 2#8, 3#8, 0xF8#8] ++ [0x99#8] :=
  ⟨_, rfl, by decide, by decide, by decide, by decide, by decide⟩
theorem witness_ReturnedCommandsSleep :
    (∃ t, exec (.read 1#8) (hearing []) = .next t ∧ t.seq = .idle) ∧ (hearing []).pwrCtrlEn = true ∧
    (∃ t, exec (.writeReq 0x10#8) loaded = .next t ∧ t.seq = .idle) ∧ loaded.pwrCtrlEn = true :=
  ⟨⟨_, rfl, by decide⟩, by decide, ⟨_, rfl, by decide⟩, by decide⟩
theorem witness_TxbufWriteIsReadBack :
    slave.seq = .idle ∧ Memory.wf loaded.mem = true ∧ 0x100 ≤ (0x100#10).toNat ∧ (0x100#10).toNat < 0x200 ∧
    0x100 ≤ (0x1FF#10).toNat ∧ (0x1FF#10).toNat < 0x200 := by decide
theorem witness_ReservedAndReadOnlyRegisters :
    (4 ≤ (4#10).toNat ∧ (0x0FF#10).toNat < 0x100) ∧ 0x300 ≤ (0x300#10).toNat ∧ 0x300 ≤ (0x3FF#10).toNat ∧
    1#10 ≠ 0#10 ∧ ¬ (0x100 ≤ (0x0FF#10).toNat ∧ (0x0FF#10).toNat < 0x200) ∧
    ¬ (0x100 ≤ (0x200#10).toNat ∧ (0x200#10).toNat < 0x200) := by decide
theorem witness_NodeTimingAndBuffersRead :
    0x100 ≤ (0x100#10).toNat ∧ (0x1FF#10).toNat < 0x200 ∧ 0x200 ≤ (0x200#10).toNat ∧ (0x2FF#10).toNat < 0x300 ∧
    (hearing []).seq = .idle := by decide
theorem witness_HostReadsHaveNoSideEffect :
    (hearing []).seq = .idle ∧ ((held []).seq ≠ .idle ∧ ¬ (0x200 ≤ (0x1FF#10).toNat ∧ (0x1FF#10).toNat < 0x300)) := by decide
/-- Each pin of the transport, and both levels of the override. -/
theorem witness_PinsShowTheNextEvent :
    ({ held [] with plan := .act (.txByte .sync) .stop }).pins.txData = some 0x55#8 ∧
    ({ held [] with plan := .act .xportConfig .stop }).pins.xportBaud = some 10417 ∧
    (held [7#8]).pins.rxPop = true ∧ (held []).pins.rxPop = false ∧
    ({ held [] with txovr := .recessive }).pins.txOvrLevel = some true ∧
    ({ held [] with ctrl := .normal }).pins.xcvrCtrl = true := by decide
theorem witness_SystemCommandsFrame :
    (∃ t, exec (.constructM true) fresh = .next t) ∧ (∃ t, exec (.constructS true 0x10#8) fresh = .next t) ∧
    ∃ t, exec .cfgRx slave = .next t := ⟨runs_of (by decide), runs_of (by decide), runs_of (by decide)⟩

/-- A command line that returns, and one whose WAIT goes on. -/
theorem witness_CommandLineIsWriteAndWait :
    next (step { fresh with inputs := [.command 0x01001002#32] }) State.inWait false = true ∧
    next (step { hearing [3#8] with inputs := [.command 0x00010020#32] }) State.inWait true = true := by decide
theorem witness_WaitReadsStatus :
    next (deliver .wait (held [])) State.inWait true = true ∧
    next (deliver .run { held [] with inWait := true }) State.inWait true = true ∧
    next (deliver (.read 0x001#10) { held [] with inWait := true }) State.inWait false = true ∧
    next (deliver (.write 0x001#10 0#32) { held [] with inWait := true }) State.inWait false = true ∧
    ({ fresh with inputs := [.other .wait] }).inputs = .other .wait :: [] := by decide

end Sys2Proof.Tests
end

section
/-! The trace only grows at its end (R7, R40): what each operation of the model does to the trace, and from that what
a run, a move of the block, an act from outside and a step do to it. `tr <+: s.trace` says that the events `tr` still
stand at the beginning of the trace of `s`. -/

namespace Sys2Proof.Machine

/-! ### Operations that leave the trace as it is -/

@[simp] theorem identified_trace (s : State) (i : Instr) : (identified s i).trace = s.trace := by
  cases i <;> rfl

/-- Reset makes no event and drops none (R140). -/
@[simp] theorem State.hardReset_trace (s : State) : s.hardReset.trace = s.trace := rfl

@[simp] theorem State.pollStatus_trace (s : State) : s.pollStatus.trace = s.trace :=
  State.pollStatus_keeps (P := fun u => u.trace = s.trace) (fun _ _ _ h => h) s rfl

@[simp] theorem hostRead_trace (num : BitVec 10) (s : State) : (hostRead num s).trace = s.trace := by
  unfold hostRead
  split <;> rfl

theorem acceptInstr_trace {i : Instr} {s a : State} (h : acceptInstr i s = .next a) : a.trace = s.trace := by
  obtain ⟨-, -, id, len, mode, rfl⟩ := acceptInstr_next h
  simp

theorem hostWrite_trace {num : BitVec 10} {v : Word} {s t : State} (h : hostWrite num v s = .next t) :
    t.trace = s.trace := by
  obtain ⟨i, hi⟩ | ⟨-, -, rfl⟩ | rfl := hostWrite_next h
  · exact acceptInstr_trace hi
  · rfl
  · rfl

/-! ### Operations that may add events -/

/-- An action that makes an event adds it at the end; the others leave the trace. -/
theorem Act.trace_prefix_perform (a : Act) (s : State) : s.trace <+: (a.perform s).trace := by
  cases a with
  | ctrlLine | txOverride | delay | txByte | xportConfig => exact List.prefix_append _ _
  | markConfigured | markConstructed | goto | copyPayload | spoilPayload | ret => exact List.prefix_rfl

theorem State.trace_prefix_answerPoll (s : State) (b : Bool) : s.trace <+: (s.answerPoll b).trace :=
  List.prefix_append _ _

theorem State.trace_prefix_takeByte (s : State) (d : RxDest) (b : Byte) (q : List Byte) :
    s.trace <+: (s.takeByte d b q).trace := by
  cases d with
  | window | rxbuf => exact List.prefix_append _ _

theorem Plan.trace_prefix_run (p : Plan) (s : State) : s.trace <+: (p.run s).trace :=
  Plan.run_keeps (P := fun u => s.trace <+: u.trace)
    (hE := fun _ h => h)
    (hA := fun a u h => h.trans (a.trace_prefix_perform u))
    (hP := fun u b h => h.trans (u.trace_prefix_answerPoll b))
    (hT := fun u d b q _ h => h.trans (u.trace_prefix_takeByte d b q))
    (hV := fun _ h => h)
    (hPlan := fun _ _ h => h)
    p s List.prefix_rfl

theorem trace_prefix_advance (s : State) : s.trace <+: (advance s).trace :=
  advance_keeps (P := fun u => s.trace <+: u.trace)
    (hTick := fun _ h => h)
    (hA := fun a u h => h.trans (a.trace_prefix_perform u))
    (hP := fun u b h => h.trans (u.trace_prefix_answerPoll b))
    (hT := fun u d b q _ h => h.trans (u.trace_prefix_takeByte d b q))
    (hV := fun _ h => h)
    (hPlan := fun _ _ h => h)
    s List.prefix_rfl

theorem trace_prefix_of_exec {i : Instr} {s t : State} (h : exec i s = .next t) : s.trace <+: t.trace := by
  obtain ⟨a, ha, rfl⟩ := exec_next h
  exact acceptInstr_trace ha ▸ a.plan.trace_prefix_run a

/-- Of the acts from outside only `run`, the block's own move, can add events. -/
theorem trace_prefix_of_deliver {x : Stimulus} {s t : State} (h : deliver x s = .next t) : s.trace <+: t.trace := by
  cases x with
  | write num v => exact (hostWrite_trace h).symm ▸ List.prefix_rfl
  | run => cases h; exact trace_prefix_advance s
  | read num => cases h; simp
  | wait | arrive | rxBecomes | shift | reset => cases h; exact List.prefix_rfl

theorem trace_prefix_of_step {s t : State} (h : step s = .next t) : s.trace <+: t.trace := by
  obtain ⟨-, rfl⟩ | ⟨_, rest, i, u, -, -, hu, rfl⟩ | ⟨x, rest, u, -, hu, rfl⟩ := step_next h
  · simpa using trace_prefix_advance s
  · simpa using trace_prefix_of_exec hu
  · simpa using trace_prefix_of_deliver hu

/-- Settles O16: whatever a step is (`step_next`), the trace before it begins the trace after it. -/
theorem traceOnlyGrows : Obligations.TraceOnlyGrows := by
  intro s t h
  obtain ⟨evs, he⟩ := trace_prefix_of_step h
  exact ⟨evs, he.symm⟩

end Sys2Proof.Machine
end

section
/-! The single moves of the block (R16, R22, R107): one equation for each case of `advance`, and that a run of a rule is
nothing but a number of such moves. What every move keeps, every run of a rule and so every command keeps. -/

namespace Sys2Proof.Machine

/-! ### One equation per case of a move -/

theorem advance_of_timer_ne {s : State} (h : s.timer ≠ 0#16) : advance s = s.tick := if_pos h

theorem advance_stop {s : State} (ht : s.timer = 0#16) (hp : s.plan = .stop) : advance s = s := by
  simp [advance, ht, hp]

theorem advance_act {s : State} {a : Act} {k : Plan} (ht : s.timer = 0#16) (hp : s.plan = .act a k) :
    advance s = { a.perform s with plan := k } := by
  simp [advance, ht, hp]

theorem advance_poll {s : State} {e a : Plan} (ht : s.timer = 0#16) (hp : s.plan = .poll e a) :
    advance s = { s.answerPoll (!s.rxQueue.isEmpty) with plan := if s.rxQueue.isEmpty then e else a } := by
  cases hq : s.rxQueue.isEmpty <;> simp [advance, ht, hp, hq]

/-- The wait for a byte (R108). -/
theorem advance_take_nil {s : State} {d : RxDest} {k : Plan} (ht : s.timer = 0#16) (hp : s.plan = .take d k)
    (hq : s.rxQueue = []) : advance s = s := by
  simp [advance, ht, hp, hq]

theorem advance_take_cons {s : State} {d : RxDest} {k : Plan} {b : Byte} {q : List Byte} (ht : s.timer = 0#16)
    (hp : s.plan = .take d k) (hq : s.rxQueue = b :: q) : advance s = { s.takeByte d b q with plan := k } := by
  simp [advance, ht, hp, hq]

theorem advance_judge {s : State} {bad good : Plan} (ht : s.timer = 0#16) (hp : s.plan = .judge bad good) :
    advance s = { s.verdict with plan := if s.windowOK then good else bad } := by
  simp [advance, ht, hp]

/-- What a move can be: a tick, no move at all, or the next action of the rule in progress. -/
theorem advance_cases {P : State → Prop} (s : State) (tick : s.timer ≠ 0#16 → P s.tick) (stay : P s)
    (act : ∀ a k, s.timer = 0#16 → s.plan = .act a k → P { a.perform s with plan := k })
    (poll : ∀ e a b p, s.plan = .poll e a → p = e ∨ p = a → P { s.answerPoll b with plan := p })
    (take : ∀ d k b q, s.plan = .take d k → P { s.takeByte d b q with plan := k })
    (judge : ∀ bad good p, s.plan = .judge bad good → p = bad ∨ p = good → P { s.verdict with plan := p }) :
    P (advance s) := by
  by_cases ht : s.timer = 0#16
  · cases hp : s.plan with
    | stop => exact (advance_stop ht hp).symm ▸ stay
    | act a k => exact advance_act ht hp ▸ act a k ht hp
    | poll e a =>
      rw [advance_poll ht hp]
      exact poll e a _ _ hp (by cases s.rxQueue.isEmpty <;> simp)
    | take d k =>
      cases hq : s.rxQueue with
      | nil => exact (advance_take_nil ht hp hq).symm ▸ stay
      | cons b q => exact advance_take_cons ht hp hq ▸ take d k b q hp
    | judge bad good =>
      rw [advance_judge ht hp]
      exact judge bad good _ hp (by cases s.windowOK <;> simp)
  · exact advance_of_timer_ne ht ▸ tick ht

/-! ### A run is a number of moves -/

theorem State.elapse_of_timer_eq {s : State} (h : s.timer = 0#16) : s.elapse = s :=
  congrArg (fun t => { s with timer := t }) h.symm

/-- As many ticks as the timer holds, and the timer has run out. -/
theorem iterate_advance_elapse (n : Nat) : ∀ s : State, s.timer.toNat = n → advance^[n] s = s.elapse := by
  induction n with
  | zero =>
    intro s hn
    exact (State.elapse_of_timer_eq (BitVec.eq_of_toNat_eq hn)).symm
  | succ n ih =>
    intro s hn
    have ht : s.timer ≠ 0#16 := fun h => by simp [h] at hn
    rw [Function.iterate_succ_apply, advance_of_timer_ne ht]
    refine ih s.tick ?_
    rw [State.tick_timer]
    bv_omega

/-- Once the timer has run out, a move goes on with the rest of the rule. -/
theorem exists_iterate_advance_of_next {s u t : State} (h : advance s.elapse = u) (hu : ∃ n, advance^[n] u = t) :
    ∃ n, advance^[n] s = t := by
  obtain ⟨n, hn⟩ := hu
  refine ⟨n + 1 + s.timer.toNat, ?_⟩
  rw [Function.iterate_add_apply, iterate_advance_elapse _ s rfl, Function.iterate_succ_apply, h, hn]

/-- The two levels agree: the run of a rule, to its end or to its wait, is reached by single moves (decision D1). -/
theorem Plan.exists_iterate_advance_eq_run (p : Plan) :
    ∀ s : State, s.plan = p → ∃ n, advance^[n] s = p.run s := by
  induction p with
  | stop =>
    intro s hp
    refine ⟨s.timer.toNat, (iterate_advance_elapse _ s rfl).trans ?_⟩
    rw [Plan.run_stop, ← hp]
    rfl
  | act a k ih =>
    intro s hp
    refine exists_iterate_advance_of_next (advance_act rfl hp) ?_
    rw [Plan.run_act, ← Plan.run_plan k _ k]
    exact ih _ rfl
  | poll e a ihe iha =>
    intro s hp
    refine exists_iterate_advance_of_next (advance_poll rfl hp) ?_
    rw [Plan.run, State.elapse_rxQueue]
    cases s.rxQueue.isEmpty
    · rw [if_neg Bool.false_ne_true, ← Plan.run_plan a _ a]
      exact iha _ rfl
    · rw [if_pos rfl, ← Plan.run_plan e _ e]
      exact ihe _ rfl
  | take d k ih =>
    intro s hp
    cases hq : s.rxQueue with
    | nil =>
      refine ⟨s.timer.toNat, (iterate_advance_elapse _ s rfl).trans ?_⟩
      simp only [Plan.run, hq, ← hp]
      rfl
    | cons b q =>
      refine exists_iterate_advance_of_next (advance_take_cons rfl hp hq) ?_
      simp only [Plan.run, hq]
      rw [← Plan.run_plan k _ k]
      exact ih _ rfl
  | judge bad good ihb ihg =>
    intro s hp
    refine exists_iterate_advance_of_next (advance_judge rfl hp) ?_
    have hw : s.elapse.windowOK = s.windowOK := rfl
    rw [Plan.run, hw]
    cases s.windowOK
    · rw [if_neg Bool.false_ne_true, ← Plan.run_plan bad _ bad]
      exact ihb _ rfl
    · rw [if_pos rfl, ← Plan.run_plan good _ good]
      exact ihg _ rfl

/-- A command ends where a number of moves from its acceptance lead. -/
theorem exec_next_iterate {i : Instr} {s t : State} (h : exec i s = .next t) :
    ∃ a n, acceptInstr i s = .next a ∧ t = advance^[n] a := by
  obtain ⟨a, ha, rfl⟩ := exec_next h
  obtain ⟨n, hn⟩ := a.plan.exists_iterate_advance_eq_run a rfl
  exact ⟨a, n, ha, hn.symm⟩

/-- What holds at the acceptance of a command and is kept by every move holds where the command ends. -/
theorem exec_induction {P : State → Prop} {i : Instr} {s t : State} (h : exec i s = .next t)
    (hAccept : ∀ a, acceptInstr i s = .next a → P a) (hMove : ∀ u, P u → P (advance u)) : P t := by
  obtain ⟨a, n, ha, rfl⟩ := exec_next_iterate h
  exact Function.Iterate.rec P (hAccept a ha) hMove n

end Sys2Proof.Machine
end

section
/-! The rules of the nine commands: which actions and destinations occur in them, and that each is sound (`Plan.ok`),
does not drive the control line with power control disabled (R77), and with it enabled finds the transceiver in Normal
at every bus activity (R137). -/

namespace Sys2Proof.Machine

/-! ### What occurs in a rule -/

/-- Every action of a rule meets `A` and every destination of a byte it takes meets `D`. -/
def Plan.All (A : Act → Prop) (D : RxDest → Prop) : Plan → Prop
  | .stop => True
  | .act a next => A a ∧ next.All A D
  | .poll empty avail => empty.All A D ∧ avail.All A D
  | .take d next => D d ∧ next.All A D
  | .judge bad good => bad.All A D ∧ good.All A D

section
variable {A : Act → Prop} {D : RxDest → Prop}

@[simp] theorem Plan.all_stop : Plan.stop.All A D := trivial

@[simp] theorem Plan.all_act {a : Act} {k : Plan} : (Plan.act a k).All A D ↔ A a ∧ k.All A D := Iff.rfl

@[simp] theorem Plan.all_poll {e a : Plan} : (Plan.poll e a).All A D ↔ e.All A D ∧ a.All A D := Iff.rfl

@[simp] theorem Plan.all_judge {b g : Plan} : (Plan.judge b g).All A D ↔ b.All A D ∧ g.All A D := Iff.rfl

@[simp] theorem Plan.all_after {acts : List Act} {k : Plan} :
    (Plan.after acts k).All A D ↔ (∀ a ∈ acts, A a) ∧ k.All A D := by
  induction acts with
  | nil => simp [Plan.after_nil]
  | cons a acts ih => rw [Plan.after_cons, Plan.all_act, ih, List.forall_mem_cons, and_assoc]

@[simp] theorem Plan.all_taking {ds : List RxDest} {k : Plan} :
    (Plan.taking ds k).All A D ↔ (∀ d ∈ ds, D d) ∧ k.All A D := by
  induction ds with
  | nil => simp
  | cons d ds ih => rw [Plan.taking_cons, Plan.All, ih, List.forall_mem_cons, and_assoc]

/-- `Plan.run_keeps` for the actions and destinations that occur in the rule alone. -/
theorem Plan.All.run_keeps {P : State → Prop} (hE : ∀ s : State, P s → P s.elapse)
    (hA : ∀ (a : Act) (s : State), A a → P s → P (a.perform s))
    (hP : ∀ (s : State) (b : Bool), P s → P (s.answerPoll b))
    (hT : ∀ (s : State) (d : RxDest) (b : Byte) (q : List Byte), D d → P s → P (s.takeByte d b q))
    (hV : ∀ s : State, P s → P s.verdict) (hPlan : ∀ (s : State) (p : Plan), P s → P { s with plan := p }) :
    ∀ (p : Plan) (s : State), p.All A D → P s → P (p.run s)
  | .stop, s, _, h => hPlan _ _ (hE s h)
  | .act a k, s, ⟨ha, hk⟩, h => Plan.All.run_keeps hE hA hP hT hV hPlan k _ hk (hA a _ ha (hE s h))
  | .poll empty avail, s, ⟨he, ha⟩, h => by
    rw [Plan.run]
    split
    · exact Plan.All.run_keeps hE hA hP hT hV hPlan empty _ he (hP _ _ (hE s h))
    · exact Plan.All.run_keeps hE hA hP hT hV hPlan avail _ ha (hP _ _ (hE s h))
  | .take d k, s, ⟨hd, hk⟩, h => by
    rw [Plan.run]
    split
    · exact hPlan _ _ (hE s h)
    · exact Plan.All.run_keeps hE hA hP hT hV hPlan k _ hk (hT _ _ _ _ hd (hE s h))
  | .judge bad good, s, ⟨hb, hg⟩, h => by
    rw [Plan.run]
    split
    · exact Plan.All.run_keeps hE hA hP hT hV hPlan good _ hg (hV _ (hE s h))
    · exact Plan.All.run_keeps hE hA hP hT hV hPlan bad _ hb (hV _ (hE s h))

end

/-- The action drives the control line. -/
def Act.drivesCtrl : Act → Prop
  | .ctrlLine _ => True
  | _ => False

theorem Plan.noCtrl_of_all {p : Plan} (h : p.All (fun a => ¬ a.drivesCtrl) fun _ => True) : p.noCtrl = true := by
  induction p with
  | stop => rfl
  | act a k ih =>
    obtain ⟨ha, hk⟩ := h
    cases a with
    | ctrlLine m => exact absurd trivial ha
    | _ => exact ih hk
  | poll e a ihe iha => simp [Plan.noCtrl, ihe h.1, iha h.2]
  | take d k ih => exact ih h.2
  | judge b g ihb ihg => simp [Plan.noCtrl, ihb h.1, ihg h.2]

/-- With power control disabled no rule drives the control line (R77). -/
theorem planOf_false_all_not_drivesCtrl (i : Instr) :
    (planOf false i).All (fun a => ¬ a.drivesCtrl) fun _ => True := by
  cases i <;>
    simp +contextual [planOf, planConstructM, planConstructS, planCfgRx, planWrite, planWriteReq, planWriteResp,
      planWriteStream, planRead, planReadStream, closing, enterNormal, enterSleep, emitBreak, sendPayload,
      Act.drivesCtrl, or_imp]

/-! ### Soundness of the parts of a rule -/

@[simp] theorem Plan.act_ne_stop (a : Act) (k : Plan) : Plan.act a k ≠ .stop := nofun

@[simp] theorem Plan.poll_ne_stop (e a : Plan) : Plan.poll e a ≠ .stop := nofun

@[simp] theorem Plan.judge_ne_stop (b g : Plan) : Plan.judge b g ≠ .stop := nofun

@[simp] theorem closing_ne_stop (pwr : Bool) (r : Result) : closing pwr r ≠ .stop := nofun

@[simp] theorem Plan.after_ne_stop (acts : List Act) {k : Plan} (hk : k ≠ .stop) : Plan.after acts k ≠ .stop := by
  cases acts with
  | nil => exact hk
  | cons a acts => exact Plan.act_ne_stop a _

@[simp] theorem Plan.taking_ne_stop (ds : List RxDest) {k : Plan} (hk : k ≠ .stop) : Plan.taking ds k ≠ .stop := by
  cases ds with
  | nil => exact hk
  | cons d ds => exact nofun

theorem Plan.bne_stop {k : Plan} (hk : k ≠ .stop) : (k != .stop) = true := bne_iff_ne.mpr hk

@[simp] theorem Plan.ok_enterNormal (pwr : Bool) {k : Plan} (hk : k ≠ .stop) (o : TxOvr) :
    (Plan.after (enterNormal pwr) k).ok o = k.ok o := by
  cases pwr <;> simp [enterNormal, Plan.after, Plan.ok, Plan.bne_stop, hk]

/-- The break leaves the override released. -/
@[simp] theorem Plan.ok_emitBreak {k : Plan} (hk : k ≠ .stop) (o : TxOvr) :
    (Plan.after emitBreak k).ok o = k.ok .release := by
  simp [emitBreak, Plan.after, Plan.ok, Plan.bne_stop, hk]

@[simp] theorem Plan.ok_sendPayload (n : Nat) {k : Plan} (hk : k ≠ .stop) :
    (Plan.after (sendPayload n) k).ok .release = k.ok .release := by
  unfold sendPayload
  induction List.range n with
  | nil => rfl
  | cons i is ih =>
    rw [List.map_cons, Plan.after_cons, ← ih]
    simp [Plan.ok, Plan.bne_stop, hk]

@[simp] theorem Plan.ok_taking (ds : List RxDest) {k : Plan} (hk : k ≠ .stop) :
    (Plan.taking ds k).ok .release = k.ok .release := by
  induction ds with
  | nil => rfl
  | cons d ds ih =>
    rw [Plan.taking_cons, ← ih]
    simp [Plan.ok, Plan.bne_stop, hk]

@[simp] theorem closing_ok (pwr : Bool) (r : Result) : (closing pwr r).ok .release = true := by
  cases pwr <;> rfl

/-- `EnterNormal()` with power control enabled powers whatever follows. -/
@[simp] theorem Plan.powered_enterNormal (k : Plan) (m : PowerMode) :
    (Plan.after (enterNormal true) k).powered m = k.powered .normal := rfl

@[simp] theorem Plan.powered_emitBreak (k : Plan) :
    (Plan.after emitBreak k).powered .normal = k.powered .normal := rfl

@[simp] theorem Plan.powered_sendPayload (n : Nat) (k : Plan) :
    (Plan.after (sendPayload n) k).powered .normal = k.powered .normal := by
  unfold sendPayload
  induction List.range n with
  | nil => rfl
  | cons i is ih => exact ih

@[simp] theorem Plan.powered_taking (ds : List RxDest) (k : Plan) :
    (Plan.taking ds k).powered .normal = k.powered .normal := by
  induction ds with
  | nil => rfl
  | cons d ds ih => exact ih

@[simp] theorem closing_powered (pwr : Bool) (r : Result) (m : PowerMode) : (closing pwr r).powered m = true := by
  cases pwr <;> rfl

/-! ### The nine rules are sound -/

theorem planOf_ne_stop (pwr : Bool) (i : Instr) : planOf pwr i ≠ .stop := by
  cases i <;> cases pwr <;> exact nofun

theorem planOf_ok (pwr : Bool) (i : Instr) : (planOf pwr i).ok .release = true := by
  cases i <;>
    simp [planOf, planConstructM, planConstructS, planCfgRx, planWrite, planWriteReq, planWriteResp, planWriteStream,
      planRead, planReadStream, Plan.after_append, Plan.after_cons, Plan.after_nil, Plan.ok]

theorem planOf_true_powered (i : Instr) (m : PowerMode) : (planOf true i).powered m = true := by
  cases i <;>
    simp [planOf, planConstructM, planConstructS, planCfgRx, planWrite, planWriteReq, planWriteResp, planWriteStream,
      planRead, planReadStream, Plan.after_append, Plan.after_cons, Plan.after_nil, Plan.powered]

theorem firstOf_ne_idle (i : Instr) : firstOf i ≠ .idle := by
  cases i <;> exact nofun

end Sys2Proof.Machine
end

section
/-! The invariant of the machine (R12, R16, R18 to R21, R24, R77, R137): it holds at rest with empty buffers, so at
every reset; an accepted command, a move of the block and an act from outside keep it, and so does every step. -/

namespace Sys2Proof.Machine

/-! ### Building the invariant, and taking it apart -/

/-- At rest with empty buffers and both lines at their reset levels nothing else matters. -/
theorem State.inv_of_reset_values {s : State} (hMem : s.mem = []) (hSeq : s.seq = .idle) (hPlan : s.plan = .stop)
    (hOvr : s.txovr = .release) (hTimer : s.timer = 0#16) (hXcvr : s.xcvr = .sleep) (hCtrl : s.ctrl = .sleep) :
    s.Inv where
  memWf := by rw [hMem]; rfl
  memRange := by rw [hMem]; rfl
  idle := by simp [hSeq, hPlan]
  plan := by rw [hPlan, hOvr]; rfl
  timer _ := hTimer
  done _ := hSeq
  mirror := hXcvr.trans hCtrl.symm
  unpowered _ := ⟨hXcvr, by rw [hPlan]; rfl⟩
  powered _ := by rw [hPlan]; rfl

/-- While a command is in progress the clauses about rest say nothing. -/
theorem State.inv_of_in_command {s : State} (hSeq : s.seq ≠ .idle) (hStop : s.plan ≠ .stop) (hDone : s.done = false)
    (memWf : Memory.wf s.mem = true) (memRange : Memory.inBuffers s.mem = true) (plan : s.plan.ok s.txovr = true)
    (mirror : s.xcvr = s.ctrl) (unpowered : s.pwrCtrlEn = false → s.xcvr = .sleep ∧ s.plan.noCtrl = true)
    (powered : s.pwrCtrlEn = true → s.plan.powered s.xcvr = true) : s.Inv where
  memWf := memWf
  memRange := memRange
  idle := iff_of_false hSeq hStop
  plan := plan
  timer h := absurd h hSeq
  done h := absurd (hDone.symm.trans h) Bool.false_ne_true
  mirror := mirror
  unpowered := unpowered
  powered := powered

theorem State.Inv.in_command {s : State} (h : s.Inv) (hp : s.plan ≠ .stop) : s.seq ≠ .idle ∧ s.done = false :=
  have hs : s.seq ≠ .idle := mt h.idle.mp hp
  ⟨hs, Bool.eq_false_iff.mpr (mt h.done hs)⟩

/-- What the invariant says of the rule in progress. -/
theorem State.Inv.clauses_of_plan {s : State} {p : Plan} (h : s.Inv) (hp : s.plan = p) :
    p.ok s.txovr = true ∧ (s.pwrCtrlEn = false → s.xcvr = .sleep ∧ p.noCtrl = true) ∧
      (s.pwrCtrlEn = true → p.powered s.xcvr = true) :=
  hp ▸ ⟨h.plan, h.unpowered, h.powered⟩

/-- At rest the transmit line is the transport's (R24). -/
theorem State.Inv.released {s : State} (h : s.Inv) (hi : s.seq = .idle) : s.txovr = .release := by
  obtain ⟨hok, -, -⟩ := h.clauses_of_plan (h.idle.mp hi)
  exact beq_iff_eq.mp hok

/-- The invariant speaks of none of the fields of the host and the environment, nor of the model's records. -/
theorem State.Inv.with_environment {s : State} (h : s.Inv) (v : Word) (b : Bool) (q p : List Byte) (d : Nat)
    (is : List Input) :
    ({ s with rdata := v, inWait := b, rxQueue := q, txPending := p, draws := d, inputs := is } : State).Inv :=
  ⟨h.memWf, h.memRange, h.idle, h.plan, h.timer, h.done, h.mirror, h.unpowered, h.powered⟩

/-! ### The buffers under an action -/

theorem Act.wf_perform (a : Act) {s : State} (h : Memory.wf s.mem = true) : Memory.wf (a.perform s).mem = true := by
  cases a with
  | copyPayload => exact Memory.wf_writeBytes _ _ h
  | spoilPayload => exact Memory.wf_writeBytes _ _ h
  | _ => exact h

@[simp] theorem State.length_drawn (s : State) (n : Nat) : (s.drawn n).length = n := by
  simp [State.drawn]

theorem length_windowPayload_le (w : List Byte) (n : Nat) : (windowPayload w n).length ≤ n :=
  List.length_take_le n _

theorem Act.inBuffers_perform (a : Act) {s : State} (h : Memory.inBuffers s.mem = true) :
    Memory.inBuffers (a.perform s).mem = true := by
  have hlen := s.opLen.isLt
  cases a with
  | copyPayload =>
    have := length_windowPayload_le s.win s.opLen.toNat
    exact Memory.inBuffers_writeBytes _ _ (by decide) (by omega) h
  | spoilPayload =>
    exact Memory.inBuffers_writeBytes _ _ (by decide) (by rw [State.length_drawn]; omega) h
  | _ => exact h

/-! ### The moves of the block -/

/-- An action of the rule in progress. Every action but the return leaves the block inside the command. -/
theorem State.Inv.perform {s : State} {a : Act} {k : Plan} (h : s.Inv) (ht : s.timer = 0#16)
    (hp : s.plan = .act a k) : ({ a.perform s with plan := k } : State).Inv := by
  obtain ⟨hseq, hdone⟩ := h.in_command (hp ▸ Plan.act_ne_stop a k)
  have hwf := a.wf_perform h.memWf
  have hrange := a.inBuffers_perform h.memRange
  obtain ⟨hok, hun, hpow⟩ := h.clauses_of_plan hp
  cases a <;>
    simp only [Plan.ok, Plan.noCtrl, Plan.powered, Bool.and_eq_true, bne_iff_ne, beq_iff_eq, Bool.true_and]
      at hok hun hpow
  case ret r =>
    obtain ⟨rfl, hok⟩ := hok
    exact ⟨hwf, hrange, iff_of_true rfl rfl, hok, fun _ => ht, fun _ => rfl, h.mirror, hun, hpow⟩
  case goto q =>
    obtain ⟨⟨hq, hk⟩, hok⟩ := hok
    exact inv_of_in_command hq hk hdone hwf hrange hok h.mirror hun hpow
  case ctrlLine m =>
    exact inv_of_in_command hseq hok.1 hdone hwf hrange hok.2 rfl (fun he => by simpa using (hun he).2) hpow
  case txByte src =>
    obtain ⟨⟨-, hk⟩, hok⟩ := hok
    exact inv_of_in_command hseq hk hdone hwf hrange hok h.mirror hun fun he => (hpow he).2
  case txOverride v =>
    exact inv_of_in_command hseq hok.1 hdone hwf hrange hok.2 h.mirror hun fun he => (hpow he).2
  case delay | xportConfig | markConfigured | markConstructed | copyPayload | spoilPayload =>
    exact inv_of_in_command hseq hok.1 hdone hwf hrange hok.2 h.mirror hun hpow

theorem State.Inv.answerPoll {s : State} {e a p : Plan} (h : s.Inv) (b : Bool) (hp : s.plan = .poll e a)
    (hk : p = e ∨ p = a) : ({ s.answerPoll b with plan := p } : State).Inv := by
  have hdone := (h.in_command (hp ▸ Plan.poll_ne_stop e a)).2
  have hseq : (s.answerPoll b).seq ≠ .idle := by cases b <;> exact nofun
  obtain ⟨hok, hun, hpow⟩ := h.clauses_of_plan hp
  simp only [Plan.ok, Plan.noCtrl, Plan.powered, Bool.and_eq_true, bne_iff_ne] at hok hun hpow
  obtain ⟨⟨⟨⟨-, he⟩, ha⟩, heok⟩, haok⟩ := hok
  rcases hk with rfl | rfl
  · exact inv_of_in_command hseq he hdone h.memWf h.memRange heok h.mirror
      (fun hn => (hun hn).imp_right And.left) fun hn => (hpow hn).1.2
  · exact inv_of_in_command hseq ha hdone h.memWf h.memRange haok h.mirror
      (fun hn => (hun hn).imp_right And.right) fun hn => (hpow hn).2

theorem State.Inv.verdict {s : State} {bad good p : Plan} (h : s.Inv) (hp : s.plan = .judge bad good)
    (hk : p = bad ∨ p = good) : ({ s.verdict with plan := p } : State).Inv := by
  have hdone := (h.in_command (hp ▸ Plan.judge_ne_stop bad good)).2
  have hseq : s.verdict.seq ≠ .idle := by
    rw [State.verdict_seq]
    split <;> exact nofun
  obtain ⟨hok, hun, hpow⟩ := h.clauses_of_plan hp
  simp only [Plan.ok, Plan.noCtrl, Plan.powered, Bool.and_eq_true, bne_iff_ne] at hok hun hpow
  obtain ⟨⟨⟨hb, hg⟩, hbok⟩, hgok⟩ := hok
  rcases hk with rfl | rfl
  · exact inv_of_in_command hseq hb hdone h.memWf h.memRange hbok h.mirror
      (fun hn => (hun hn).imp_right And.left) fun hn => (hpow hn).1
  · exact inv_of_in_command hseq hg hdone h.memWf h.memRange hgok h.mirror
      (fun hn => (hun hn).imp_right And.right) fun hn => (hpow hn).2

/-- A byte taken goes to WIN, or to RXBUF, which lies inside the buffers. -/
theorem State.Inv.takeByte {s : State} {d : RxDest} {k : Plan} (h : s.Inv) (b : Byte) (q : List Byte)
    (hp : s.plan = .take d k) : ({ s.takeByte d b q with plan := k } : State).Inv := by
  obtain ⟨hseq, hdone⟩ := h.in_command (by rw [hp]; exact nofun)
  obtain ⟨hok, hun, hpow⟩ := h.clauses_of_plan hp
  simp only [Plan.ok, Plan.noCtrl, Plan.powered, Bool.and_eq_true, bne_iff_ne] at hok hun hpow
  obtain ⟨⟨-, hk⟩, hok⟩ := hok
  cases d with
  | window =>
    exact inv_of_in_command hseq hk hdone h.memWf h.memRange hok h.mirror hun fun hn => (hpow hn).2
  | rxbuf i =>
    obtain ⟨hlo, hhi⟩ := rxAddr_range i
    exact inv_of_in_command hseq hk hdone (Memory.wf_write _ _ h.memWf)
      (Memory.inBuffers_write b (by omega) hhi h.memRange) hok h.mirror hun fun hn => (hpow hn).2

/-- Time passes only inside a command, since at rest the timer is 0. -/
theorem State.Inv.tick {s : State} (h : s.Inv) (ht : s.timer ≠ 0#16) : s.tick.Inv :=
  ⟨h.memWf, h.memRange, h.idle, h.plan, fun hi => absurd (h.timer hi) ht, h.done, h.mirror, h.unpowered, h.powered⟩

theorem State.Inv.advance {s : State} (h : s.Inv) : (advance s).Inv :=
  advance_cases s (tick := h.tick) (stay := h)
    (act := fun _ _ ht hp => h.perform ht hp)
    (poll := fun _ _ b _ hp hk => h.answerPoll b hp hk)
    (take := fun _ _ b q hp => h.takeByte b q hp)
    (judge := fun _ _ _ hp hk => h.verdict hp hk)

/-! ### Commands and acts from outside -/

theorem State.Inv.identified {s : State} (h : s.Inv) (i : Instr) : (identified s i).Inv := by
  cases i with
  | constructM | constructS =>
    exact ⟨h.memWf, h.memRange, h.idle, h.plan, h.timer, h.done, h.mirror, h.unpowered, h.powered⟩
  | _ => exact h

@[simp] theorem identified_seq (s : State) (i : Instr) : (identified s i).seq = s.seq := by cases i <;> rfl

@[simp] theorem identified_pwrCtrlEn (s : State) (i : Instr) : (identified s i).pwrCtrlEn = s.pwrCtrlEn := by
  cases i <;> rfl

/-- A command is accepted at rest, with a sound rule before it. -/
theorem State.Inv.acceptInstr {i : Instr} {s a : State} (h : s.Inv) (ha : acceptInstr i s = .next a) : a.Inv := by
  obtain ⟨hi, -, id, len, mode, rfl⟩ := acceptInstr_next ha
  have hid := h.identified i
  have hovr := hid.released (by simpa using hi)
  refine inv_of_in_command (firstOf_ne_idle i) (planOf_ne_stop _ i) rfl hid.memWf hid.memRange ?_ hid.mirror ?_ ?_
  · rw [State.issue_plan, State.issue_txovr, hovr]
    exact planOf_ok _ i
  · simp only [State.issue_pwrCtrlEn, identified_pwrCtrlEn]
    intro hp
    refine ⟨(hid.unpowered (by simpa using hp)).1, ?_⟩
    rw [State.issue_plan, hp]
    exact Plan.noCtrl_of_all (planOf_false_all_not_drivesCtrl i)
  · simp only [State.issue_pwrCtrlEn, identified_pwrCtrlEn]
    intro hp
    rw [State.issue_plan, hp]
    exact planOf_true_powered i _

theorem State.Inv.exec {i : Instr} {s t : State} (h : s.Inv) (ht : exec i s = .next t) : t.Inv :=
  exec_induction ht (fun _ ha => h.acceptInstr ha) fun _ hu => hu.advance

/-- A write of the host stores a byte of TXBUF at most, or it begins a command. -/
theorem State.Inv.hostWrite {num : BitVec 10} {v : Word} {s t : State} (h : s.Inv) (ht : hostWrite num v s = .next t) :
    t.Inv := by
  obtain ⟨i, hi⟩ | ⟨htx, -, rfl⟩ | rfl := hostWrite_next ht
  · exact h.acceptInstr hi
  · simp only [isTxNum, Bool.and_eq_true, decide_eq_true_eq] at htx
    exact ⟨Memory.wf_write _ _ h.memWf, Memory.inBuffers_write _ htx.1 (by omega) h.memRange, h.idle, h.plan, h.timer,
      h.done, h.mirror, h.unpowered, h.powered⟩
  · exact h

theorem State.Inv.hostRead {s : State} (h : s.Inv) (num : BitVec 10) : (hostRead num s).Inv := by
  unfold Machine.hostRead
  split <;> exact h.with_environment _ _ _ _ _ _

theorem State.Inv.deliver {x : Stimulus} {s t : State} (h : s.Inv) (ht : deliver x s = .next t) : t.Inv := by
  have hleave : s.leaveWait.Inv := h.with_environment _ _ _ _ _ _
  cases x with
  | write num v => exact hleave.hostWrite ht
  | read num => cases ht; exact hleave.hostRead num
  | run => cases ht; exact h.advance
  | reset => cases ht; exact inv_of_reset_values rfl rfl rfl rfl rfl rfl rfl
  | wait | arrive | rxBecomes | shift => cases ht; exact h.with_environment _ _ _ _ _ _

theorem State.Inv.pollStatus {s : State} (h : s.Inv) : s.pollStatus.Inv :=
  State.pollStatus_keeps (fun _ _ _ hu => hu.with_environment _ _ _ _ _ _) s h

/-- Settles O13, along what a step can be (`step_next`): a move, a command, or an act from outside. -/
theorem stepKeepsInv : Obligations.StepKeepsInv := by
  intro s t h hst
  have hin : ∀ rest, ({ s with inputs := rest } : State).Inv := h.with_environment _ _ _ _ _
  obtain ⟨-, rfl⟩ | ⟨word, rest, i, u, -, -, hu, rfl⟩ | ⟨x, rest, u, -, hu, rfl⟩ := step_next hst
  · exact h.advance.pollStatus
  · have hw : u.enterWait.Inv := ((hin rest).exec hu).with_environment _ _ _ _ _ _
    exact hw.pollStatus
  · exact ((hin rest).deliver hu).pollStatus

/-- Settles O12: at reset the buffers are empty and the block is at rest. -/
theorem resetMeetsInv : Obligations.ResetMeetsInv :=
  State.inv_of_reset_values rfl rfl rfl rfl rfl rfl rfl

end Sys2Proof.Machine
end

section
/-! The event of the block's next move (R7, R31): what every action and every move adds to the trace, and that the
output pins show it (R32). -/

namespace Sys2Proof.Machine

/-- The event an action makes, if it makes one. -/
def Act.event (a : Act) (s : State) : Option Event :=
  match a with
  | .ctrlLine m => some (.ctrlLine m)
  | .txOverride v => some (.txOverride v)
  | .delay t => some (.delay t)
  | .txByte src => some (.txByte (s.source src))
  | .xportConfig => some (.xportConfig Config.baud)
  | .markConfigured | .markConstructed | .goto _ | .copyPayload | .spoilPayload | .ret _ => none

theorem Act.trace_perform (a : Act) (s : State) : (a.perform s).trace = s.trace ++ (a.event s).toList := by
  cases a with
  | ctrlLine | txOverride | delay | txByte | xportConfig => rfl
  | markConfigured | markConstructed | goto | copyPayload | spoilPayload | ret => exact (List.append_nil _).symm

theorem State.trace_takeByte (s : State) (d : RxDest) (b : Byte) (q : List Byte) :
    (s.takeByte d b q).trace = s.trace ++ [.rxByte b] := by
  cases d <;> rfl

/-- The event of the block's next move, if it makes one. -/
def State.nextEvent (s : State) : Option Event :=
  if s.timer ≠ 0#16 then none
  else
    match s.plan with
    | .stop => none
    | .act a _ => a.event s
    | .poll _ _ => some (.rxAvail !s.rxQueue.isEmpty)
    | .take _ _ => s.rxQueue.head?.map .rxByte
    | .judge _ _ => none

theorem advance_trace (s : State) : (advance s).trace = s.trace ++ s.nextEvent.toList := by
  unfold State.nextEvent
  split
  next ht => simp [advance_of_timer_ne ht]
  next ht =>
    have ht : s.timer = 0#16 := not_not.mp ht
    cases hp : s.plan with
    | stop => simp [advance_stop ht hp]
    | act a k => rw [advance_act ht hp]; exact a.trace_perform s
    | poll e a => rw [advance_poll ht hp]; exact State.answerPoll_trace s _
    | take d k =>
      cases hq : s.rxQueue with
      | nil => simp [advance_take_nil ht hp hq]
      | cons b q => rw [advance_take_cons ht hp hq]; exact s.trace_takeByte d b q
    | judge b g => simp [advance_judge ht hp]

theorem advance_trace_eq_append_iff (s : State) (e : Event) :
    (advance s).trace = s.trace ++ [e] ↔ s.nextEvent = some e := by
  rw [advance_trace, List.append_cancel_left_eq]
  cases s.nextEvent <;> simp

/-! ### The pins -/

theorem Act.offers_fst_eq_some_iff (a : Act) (s : State) (b : Byte) :
    (a.offers s).1 = some b ↔ a.event s = some (.txByte b) := by
  cases a <;> simp [Act.offers, Act.event]

theorem Act.offers_snd_eq_some_iff (a : Act) (s : State) (r : Nat) :
    (a.offers s).2 = some r ↔ a.event s = some (.xportConfig r) := by
  cases a <;> simp [Act.offers, Act.event]

theorem Act.event_ne_rxByte (a : Act) (s : State) (b : Byte) : a.event s ≠ some (.rxByte b) := by
  cases a <;> simp [Act.event]

theorem State.offers_fst_eq_some_iff (s : State) (b : Byte) :
    s.offers.1 = some b ↔ s.nextEvent = some (.txByte b) := by
  unfold State.offers State.nextEvent
  split
  · simp
  · cases s.plan <;> simp [Act.offers_fst_eq_some_iff]

theorem State.offers_snd_eq_some_iff (s : State) (r : Nat) :
    s.offers.2 = some r ↔ s.nextEvent = some (.xportConfig r) := by
  unfold State.offers State.nextEvent
  split
  · simp
  · cases s.plan <;> simp [Act.offers_snd_eq_some_iff]

theorem State.pops_iff (s : State) : s.pops = true ↔ ∃ b, s.nextEvent = some (.rxByte b) := by
  by_cases ht : s.timer = 0#16
  · cases hp : s.plan with
    | take d k => cases hq : s.rxQueue <;> simp [State.pops, State.nextEvent, ht, hp, hq]
    | act a k => simp [State.pops, State.nextEvent, ht, hp, Act.event_ne_rxByte]
    | stop | poll | judge => simp [State.pops, State.nextEvent, ht, hp]
  · simp [State.pops, State.nextEvent, ht]

/-- Settles O56: the pins of the transport by the event of the next move, the lines by their levels. -/
theorem pinsShowTheNextEvent : Obligations.PinsShowTheNextEvent := by
  intro s
  simp only [advance_trace_eq_append_iff]
  refine ⟨s.offers_fst_eq_some_iff, s.offers_snd_eq_some_iff, s.pops_iff, ?_⟩
  refine ⟨bne_eq_false_iff_eq, ?_, ?_, ?_⟩
  · change s.txovr.level = some false ↔ _
    cases s.txovr <;> decide
  · change s.txovr.level = some true ↔ _
    cases s.txovr <;> decide
  · change s.ctrl.level = true ↔ _
    cases s.ctrl <;> decide

/-- Settles O23: a move is a tick while the timer is not zero (`advance_of_timer_ne`), and an action otherwise. -/
theorem timerHoldsTheSequencer : Obligations.TimerHoldsTheSequencer := by
  refine fun s => ⟨fun ht => ?_, fun t p ht hp => advance_act ht hp⟩
  rw [advance_of_timer_ne ht]
  refine ⟨rfl, ?_⟩
  rw [State.tick_timer]
  bv_omega

end Sys2Proof.Machine
end

section
/-! Acceptance as an equation (R17, R42, R118): the state in which a command has been accepted is a function of the
command and of the state it is issued in. -/

namespace Sys2Proof.Machine

/-- The operand latches a command writes, ID, LEN and MODE, 0 where its format has none (R17, R56; log entry 8). -/
def idLatch : Instr → Byte
  | .constructS _ id | .write id _ | .writeReq id => id
  | .constructM _ | .cfgRx | .writeResp _ | .writeStream _ | .read _ | .readStream _ => 0#8

def lenLatch : Instr → Byte
  | .write _ len | .writeResp len | .writeStream len | .read len | .readStream len => len
  | .constructM _ | .constructS _ _ | .cfgRx | .writeReq _ => 0#8

def modeLatch : Instr → Bool
  | .constructM mode | .constructS mode _ => mode
  | .cfgRx | .write _ _ | .writeReq _ | .writeResp _ | .writeStream _ | .read _ | .readStream _ => false

/-- The state in which a command has been accepted and has not moved yet. -/
def State.accepted (s : State) (i : Instr) : State :=
  (identified s i).issue (firstOf i) (idLatch i) (lenLatch i) (modeLatch i) (planOf s.pwrCtrlEn i)

theorem acceptInstr_of_allowed {i : Instr} {s : State} (hi : s.seq = .idle) (ha : allowed s i = true) :
    acceptInstr i s = .next (s.accepted i) := by
  have hb : s.busy = false := busy_eq_false.mpr hi
  cases i <;> simp only [allowed, Bool.and_eq_true, Bool.not_eq_true'] at ha <;>
    simp [acceptInstr, acceptConstructM, acceptConstructS, acceptCfgRx, acceptWrite, acceptWriteReq, acceptWriteResp,
      acceptWriteStream, acceptRead, acceptReadStream, whenFresh, whenReady, whenFrame, whenConfigured, hb, ha,
      State.accepted, identified, firstOf, idLatch, lenLatch, modeLatch, planOf]

theorem acceptInstr_eq_next_iff {i : Instr} {s a : State} :
    acceptInstr i s = .next a ↔ s.seq = .idle ∧ allowed s i = true ∧ a = s.accepted i := by
  constructor
  · intro h
    obtain ⟨hi, ha, -⟩ := acceptInstr_next h
    exact ⟨hi, ha, Host.Outcome.next.inj (h.symm.trans (acceptInstr_of_allowed hi ha))⟩
  · rintro ⟨hi, ha, rfl⟩
    exact acceptInstr_of_allowed hi ha

/-- A command that gives a next state was allowed, and is its rule run from its acceptance. -/
theorem exec_next_accepted {i : Instr} {s t : State} (h : exec i s = .next t) :
    s.seq = .idle ∧ allowed s i = true ∧ t = (planOf s.pwrCtrlEn i).run (s.accepted i) := by
  obtain ⟨a, ha, rfl⟩ := exec_next h
  obtain ⟨hi, hal, rfl⟩ := acceptInstr_eq_next_iff.mp ha
  exact ⟨hi, hal, rfl⟩

end Sys2Proof.Machine
end

section
/-! With power control disabled the control line is not driven (R12, R74, R75, R77): no rule holds an action that drives
it. -/

namespace Sys2Proof.Machine

/-- From `s` to `u` the control line has not been driven. -/
def UndrivenSince (s u : State) : Prop :=
  u.xcvr = s.xcvr ∧ u.ctrl = s.ctrl ∧ ∃ evs, u.trace = s.trace ++ evs ∧ ∀ m, Event.ctrlLine m ∉ evs

theorem UndrivenSince.append {s u v : State} {evs : List Event} (h : UndrivenSince s u) (hx : v.xcvr = u.xcvr)
    (hc : v.ctrl = u.ctrl) (ht : v.trace = u.trace ++ evs) (hm : ∀ m, Event.ctrlLine m ∉ evs) : UndrivenSince s v := by
  obtain ⟨hx', hc', evs', ht', hm'⟩ := h
  refine ⟨hx.trans hx', hc.trans hc', evs' ++ evs, by rw [ht, ht', List.append_assoc], fun m h => ?_⟩
  exact (List.mem_append.mp h).elim (hm' m) (hm m)

theorem UndrivenSince.perform {s u : State} {a : Act} (h : UndrivenSince s u) (ha : ¬ a.drivesCtrl) :
    UndrivenSince s (a.perform u) := by
  cases a with
  | ctrlLine m => exact absurd trivial ha
  | _ => exact h.append rfl rfl (Act.trace_perform _ u) fun m => by simp [Act.event]

theorem UndrivenSince.takeByte {s u : State} (h : UndrivenSince s u) (d : RxDest) (b : Byte) (q : List Byte) :
    UndrivenSince s (u.takeByte d b q) := by
  cases d <;> exact h.append rfl rfl (State.trace_takeByte u _ b q) fun m => by simp

theorem undrivenSince_accepted (s : State) (i : Instr) : UndrivenSince s (s.accepted i) := by
  refine ⟨?_, ?_, [], ?_, fun m => List.not_mem_nil⟩ <;> cases i <;> simp [State.accepted, identified]

/-- Settles O18: no action of the nine rules without power control drives the line. -/
theorem disabledPowerControlDrivesNothing : Obligations.DisabledPowerControlDrivesNothing := by
  intro i s t hp h
  obtain ⟨-, -, rfl⟩ := exec_next_accepted h
  rw [hp]
  exact Plan.All.run_keeps (P := UndrivenSince s)
    (hE := fun _ h => h)
    (hA := fun a u ha h => h.perform ha)
    (hP := fun u b h => h.append rfl rfl (State.answerPoll_trace u b) fun m => by simp)
    (hT := fun u d b q _ h => h.takeByte d b q)
    (hV := fun _ h => h)
    (hPlan := fun _ _ h => h)
    _ _ (planOf_false_all_not_drivesCtrl i) (undrivenSince_accepted s i)

end Sys2Proof.Machine
end

section
/-! The identity of a constructed node (R10, R11, R118): only a construct command and a reset write it. -/

namespace Sys2Proof.Machine

/-- The node is constructed, with this role and this identifier. -/
def State.ConstructedAs (r : Role) (d : Byte) (s : State) : Prop := s.role = r ∧ s.ident = d ∧ s.constructed = true

theorem State.ConstructedAs.advance {r : Role} {d : Byte} {s : State} (h : s.ConstructedAs r d) :
    (advance s).ConstructedAs r d := by
  refine advance_keeps (P := State.ConstructedAs r d) (hTick := fun _ h => h) (hA := fun a u h => ?_)
    (hP := fun _ _ h => h) (hT := fun u e b q _ h => ?_) (hV := fun _ h => h) (hPlan := fun _ _ h => h) s h
  · cases a with
    | markConstructed => exact ⟨h.1, h.2.1, rfl⟩
    | _ => exact h
  · cases e <;> exact h

/-- Of a constructed block no command is allowed that writes the identity (R118). -/
theorem identified_of_constructed {s : State} {i : Instr} (hc : s.constructed = true) (ha : allowed s i = true) :
    identified s i = s := by
  cases i with
  | constructM | constructS => simp [allowed, hc] at ha
  | _ => rfl

theorem State.ConstructedAs.acceptInstr {r : Role} {d : Byte} {i : Instr} {s a : State} (h : s.ConstructedAs r d)
    (ha : acceptInstr i s = .next a) : a.ConstructedAs r d := by
  obtain ⟨-, hal, rfl⟩ := acceptInstr_eq_next_iff.mp ha
  rw [State.accepted, identified_of_constructed h.2.2 hal]
  exact h

theorem State.ConstructedAs.exec {r : Role} {d : Byte} {i : Instr} {s t : State} (h : s.ConstructedAs r d)
    (ht : exec i s = .next t) : t.ConstructedAs r d :=
  exec_induction ht (fun _ ha => h.acceptInstr ha) fun _ hu => hu.advance

theorem State.ConstructedAs.hostRead {r : Role} {d : Byte} {s : State} (h : s.ConstructedAs r d) (num : BitVec 10) :
    (hostRead num s).ConstructedAs r d := by
  unfold Machine.hostRead
  split <;> exact h

theorem State.ConstructedAs.deliver {r : Role} {d : Byte} {x : Stimulus} {s t : State} (h : s.ConstructedAs r d)
    (hx : x ≠ .reset) (ht : deliver x s = .next t) : t.ConstructedAs r d := by
  have hleave : s.leaveWait.ConstructedAs r d := h
  cases x with
  | write num v =>
    obtain ⟨i, hi⟩ | ⟨-, -, rfl⟩ | rfl := hostWrite_next ht
    · exact hleave.acceptInstr hi
    · exact h
    · exact h
  | read num => cases ht; exact hleave.hostRead num
  | run => cases ht; exact h.advance
  | reset => exact absurd rfl hx
  | wait | arrive | rxBecomes | shift => cases ht; exact h

theorem State.ConstructedAs.pollStatus {r : Role} {d : Byte} {s : State} (h : s.ConstructedAs r d) :
    s.pollStatus.ConstructedAs r d :=
  State.pollStatus_keeps (P := State.ConstructedAs r d) (fun _ _ _ h => h) s h

/-- Settles O14, along what a step can be (`step_next`). -/
theorem identityIsImmutable : Obligations.IdentityIsImmutable := by
  intro s t hc hreset hst
  have h : s.ConstructedAs s.role s.ident := ⟨rfl, rfl, hc⟩
  obtain ⟨-, rfl⟩ | ⟨word, rest, i, u, -, -, hu, rfl⟩ | ⟨x, rest, u, hin, hu, rfl⟩ := step_next hst
  · exact h.advance.pollStatus
  · have hu' : u.ConstructedAs s.role s.ident := State.ConstructedAs.exec (s := { s with inputs := rest }) h hu
    exact State.ConstructedAs.pollStatus (s := u.enterWait) hu'
  · have hx : x ≠ .reset := by
      rintro rfl
      exact hreset (by rw [hin]; rfl)
    exact (State.ConstructedAs.deliver (s := { s with inputs := rest }) h hx hu).pollStatus

end Sys2Proof.Machine
end

section
/-! The frame of the reads (R105, R106, R109; decision D15): they keep everything but RXBUF[0 .. n-1] and the registers
of a command in progress. -/

namespace Sys2Proof.Machine

/-- The actions that occur in the rules of the reads. -/
def Act.ofRead : Act → Prop
  | .ctrlLine _ | .delay _ | .goto _ | .copyPayload | .spoilPayload | .ret _ => True
  | .txOverride _ | .txByte _ | .xportConfig | .markConfigured | .markConstructed => False

/-- A read of size `n` takes bytes into WIN or into RXBUF[0 .. n-1]. -/
def RxDest.ofRead (n : Byte) : RxDest → Prop
  | .window => True
  | .rxbuf i => i.toNat < n.toNat

theorem planOf_isRead_all {i : Instr} {n : Byte} (h : Spec.isRead i n) (pwr : Bool) :
    (planOf pwr i).All Act.ofRead (RxDest.ofRead n) := by
  have hn := n.isLt
  have hstream : ∀ k < n.toNat, RxDest.ofRead n (.rxbuf (BitVec.ofNat 8 k)) := fun k hk => by
    rw [RxDest.ofRead, BitVec.toNat_ofNat]
    omega
  have hclose : ∀ r, (closing pwr r).All Act.ofRead (RxDest.ofRead n) := fun r => by
    cases pwr <;> simp [closing, enterSleep, Act.ofRead]
  have hopen : ∀ a ∈ enterNormal pwr ++ [.goto .poll], Act.ofRead a := by
    cases pwr <;> simp [enterNormal, Act.ofRead]
  rcases h with rfl | rfl
  · have hw : ∀ d ∈ windowDests n.toNat, RxDest.ofRead n d := fun d hd => by
      rw [List.eq_of_mem_replicate hd]
      trivial
    simp only [planOf, planRead, Plan.all_after, Plan.all_poll, Plan.all_taking, Plan.all_judge, Plan.all_act]
    exact ⟨hopen, hclose _, hw, ⟨trivial, hclose _⟩, trivial, hclose _⟩
  · have hs : ∀ d ∈ streamDests n.toNat, RxDest.ofRead n d := by simpa [streamDests] using hstream
    simp only [planOf, planReadStream, Plan.all_after, Plan.all_poll, Plan.all_taking, Plan.all_act]
    exact ⟨hopen, hclose _, hs, trivial, hclose _⟩

/-- `u` is in a read of size `n` accepted in `s`, or after it, and differs from `s` only in what the read may change. -/
def ReadKeeps (n : Byte) (s u : State) : Prop :=
  u.opLen = n ∧ (∀ a, a < 0x200 ∨ 0x200 + n.toNat ≤ a → Memory.read u.mem a = Memory.read s.mem a) ∧
  u.role = s.role ∧ u.ident = s.ident ∧ u.constructed = s.constructed ∧ u.rxConfigured = s.rxConfigured ∧
  u.rdata = s.rdata ∧ u.inWait = s.inWait ∧ u.txovr = s.txovr ∧ u.xport = s.xport ∧ u.pwrCtrlEn = s.pwrCtrlEn ∧
  u.txDrain = s.txDrain ∧ u.inputs = s.inputs

/-- A payload of `n` bytes at most leaves every byte outside RXBUF[0 .. n-1] alone. -/
theorem ReadKeeps.writeBytes {n : Byte} {s u : State} (h : ReadKeeps n s u) (vs : List Byte) (d : Nat)
    (hvs : vs.length ≤ n.toNat) : ReadKeeps n s { u with mem := Memory.writeBytes u.mem 0x200 vs, draws := d } := by
  obtain ⟨hlen, hmem, hrest⟩ := h
  refine ⟨hlen, fun a ha => ?_, hrest⟩
  rw [Memory.read_writeBytes_outside vs _ _ a (by omega), hmem a ha]

theorem ReadKeeps.perform {n : Byte} {s u : State} {a : Act} (h : ReadKeeps n s u) (ha : a.ofRead) :
    ReadKeeps n s (a.perform u) := by
  have hlen : u.opLen = n := h.1
  cases a with
  | copyPayload => exact h.writeBytes _ u.draws (hlen ▸ length_windowPayload_le _ _)
  | spoilPayload => exact h.writeBytes _ _ (by rw [State.length_drawn, hlen])
  | txOverride | txByte | xportConfig | markConfigured | markConstructed => exact ha.elim
  | ctrlLine | delay | goto | ret => exact h

theorem ReadKeeps.takeByte {n : Byte} {s u : State} {d : RxDest} (h : ReadKeeps n s u) (hd : d.ofRead n) (b : Byte)
    (q : List Byte) : ReadKeeps n s (u.takeByte d b q) := by
  cases d with
  | window => exact h
  | rxbuf i =>
    obtain ⟨hlen, hmem, hrest⟩ := h
    have hi : i.toNat < n.toNat := hd
    refine ⟨hlen, fun a ha => ?_, hrest⟩
    have hne : rxAddr i ≠ a := by unfold rxAddr; omega
    exact (Memory.read_write_ne hne b u.mem).trans (hmem a ha)

/-- Settles O48: every action and every destination of the two rules keeps the frame. -/
theorem readsFrame : Obligations.ReadsFrame := by
  intro i n s t hr h
  obtain ⟨-, -, rfl⟩ := exec_next_accepted h
  have hAccepted : ReadKeeps n s (s.accepted i) := by
    rcases hr with rfl | rfl <;> exact ⟨rfl, fun _ _ => rfl, rfl, rfl, rfl, rfl, rfl, rfl, rfl, rfl, rfl, rfl, rfl⟩
  have hKeeps := Plan.All.run_keeps (P := ReadKeeps n s)
    (hE := fun _ h => h)
    (hA := fun a u ha h => h.perform ha)
    (hP := fun _ _ h => h)
    (hT := fun u d b q hd h => h.takeByte hd b q)
    (hV := fun _ h => h)
    (hPlan := fun _ _ h => h)
    _ _ (planOf_isRead_all hr s.pwrCtrlEn) hAccepted
  exact hKeeps.2

end Sys2Proof.Machine
end

section
/-! A write or read that has returned has put the transceiver to Sleep (R24, R76; decision D11): every way through its
rule ends in `EnterSleep()` and the return. -/

namespace Sys2Proof.Machine

/-- The action does not bring the sequencer to rest. -/
def Act.staysInCommand : Act → Prop
  | .ret _ => False
  | .goto q => q ≠ .idle
  | _ => True

/-- Every way through the rule ends in `EnterSleep()` and the return, power control being enabled. -/
inductive Plan.Closes : Plan → Prop
  | closing (r : Result) : Closes (closing true r)
  | act {a : Act} {k : Plan} (ha : a.staysInCommand) (hk : Closes k) : Closes (.act a k)
  | poll {e a : Plan} (he : Closes e) (ha : Closes a) : Closes (.poll e a)
  | take {d : RxDest} {k : Plan} (hk : Closes k) : Closes (.take d k)
  | judge {b g : Plan} (hb : Closes b) (hg : Closes g) : Closes (.judge b g)

theorem Plan.Closes.after {k : Plan} (hk : k.Closes) :
    ∀ {acts : List Act}, (∀ a ∈ acts, a.staysInCommand) → (Plan.after acts k).Closes
  | [], _ => hk
  | a :: acts, h => by
    obtain ⟨ha, hs⟩ := List.forall_mem_cons.mp h
    exact .act ha (hk.after hs)

theorem Plan.Closes.taking {k : Plan} (hk : k.Closes) : ∀ ds : List RxDest, (Plan.taking ds k).Closes
  | [] => hk
  | _ :: ds => .take (hk.taking ds)

theorem Act.seq_perform_ne_idle {a : Act} (ha : a.staysInCommand) {s : State} (h : s.seq ≠ .idle) :
    (a.perform s).seq ≠ .idle := by
  cases a with
  | ret r => exact ha.elim
  | goto q => exact ha
  | _ => exact h

@[simp] theorem Act.perform_pwrCtrlEn (a : Act) (s : State) : (a.perform s).pwrCtrlEn = s.pwrCtrlEn := by
  cases a <;> rfl

@[simp] theorem State.takeByte_pwrCtrlEn (s : State) (d : RxDest) (b : Byte) (q : List Byte) :
    (s.takeByte d b q).pwrCtrlEn = s.pwrCtrlEn := by
  cases d <;> rfl

@[simp] theorem State.takeByte_seq (s : State) (d : RxDest) (b : Byte) (q : List Byte) :
    (s.takeByte d b q).seq = s.seq := by
  cases d <;> rfl

/-- Run to its return such a rule leaves the transceiver in Sleep; a wait for a byte is no return. -/
theorem Plan.Closes.run_asleep {p : Plan} (h : p.Closes) :
    ∀ s : State, s.pwrCtrlEn = true → s.seq ≠ .idle → (p.run s).seq = .idle →
      (p.run s).xcvr = .sleep ∧ (p.run s).ctrl = .sleep := by
  induction h with
  | closing r =>
    intro s hp _ _
    rw [← hp, closing_run]
    simp [hp]
  | @act a k ha _ ih =>
    intro s hp hs
    exact ih (a.perform s.elapse) (by simpa using hp) (Act.seq_perform_ne_idle ha hs)
  | poll _ _ ihe iha =>
    intro s hp _
    rw [Plan.run]
    split
    · exact ihe (s.elapse.answerPoll false) hp nofun
    · exact iha (s.elapse.answerPoll true) hp nofun
  | @take d k _ ih =>
    intro s hp hs
    rw [Plan.run]
    split
    · exact fun hi => absurd hi hs
    next b q _ => exact ih (s.elapse.takeByte d b q) (by simpa using hp) (by simpa using hs)
  | judge _ _ ihb ihg =>
    intro s hp _
    have hv : s.elapse.verdict.seq ≠ .idle := by
      rw [State.verdict_seq]
      split <;> exact nofun
    rw [Plan.run]
    split
    · exact ihg _ hp hv
    · exact ihb _ hp hv

theorem planOf_isWrite_closes {i : Instr} (h : Spec.isWrite i) : (planOf true i).Closes := by
  obtain ⟨id, len, rfl⟩ | ⟨id, rfl⟩ | ⟨len, rfl⟩ | ⟨len, rfl⟩ := h <;>
    exact (Plan.Closes.closing .success).after (by
      simp +contextual [enterNormal, emitBreak, sendPayload, Act.staysInCommand, or_imp])

theorem planOf_isRead_closes {i : Instr} {n : Byte} (h : Spec.isRead i n) : (planOf true i).Closes := by
  have hopen : ∀ a ∈ enterNormal true ++ [.goto .poll], Act.staysInCommand a := by
    simp [enterNormal, Act.staysInCommand]
  rcases h with rfl | rfl
  · have hjudge : (Plan.judge (.act .spoilPayload (closing true .validationFailed))
        (.act .copyPayload (closing true .success))).Closes :=
      .judge (.act trivial (.closing _)) (.act trivial (.closing _))
    exact (Plan.Closes.poll (.closing _) (hjudge.taking _)).after hopen
  · have hvalid : (Plan.act (.goto .valid) (closing true .success)).Closes := .act nofun (.closing _)
    exact (Plan.Closes.poll (.closing _) (hvalid.taking _)).after hopen

/-- Settles O50: the rules of the writes and the reads end in `EnterSleep()` on every way. -/
theorem returnedCommandsSleep : Obligations.ReturnedCommandsSleep := by
  intro i s t hi h hidle hp
  obtain ⟨-, -, rfl⟩ := exec_next_accepted h
  rw [hp] at hidle ⊢
  have hcloses : (planOf true i).Closes :=
    hi.elim planOf_isWrite_closes fun ⟨_, hr⟩ => planOf_isRead_closes hr
  refine hcloses.run_asleep _ ?_ (firstOf_ne_idle i) hidle
  rw [State.accepted, State.issue_pwrCtrlEn, identified_pwrCtrlEn, hp]

end Sys2Proof.Machine
end

section
/-! The two levels of decision D1 agree: the steps after a write of CMD are the moves that make up the run of the
command (R45, R46, R107). -/

namespace Sys2Proof.Machine

/-- Whether the host is in a WAIT does not matter to an action (R64). -/
theorem Act.perform_leaveWait (a : Act) (s : State) : a.perform s.leaveWait = (a.perform s).leaveWait := by
  cases a <;> rfl

theorem State.takeByte_leaveWait (s : State) (d : RxDest) (b : Byte) (q : List Byte) :
    s.leaveWait.takeByte d b q = (s.takeByte d b q).leaveWait := by
  cases d <;> rfl

/-- Whether the host is in a WAIT does not matter to a move. -/
theorem advance_leaveWait (s : State) : advance s.leaveWait = (advance s).leaveWait := by
  by_cases ht : s.timer = 0#16
  · have ht' : s.leaveWait.timer = 0#16 := ht
    cases hp : s.plan with
    | stop => rw [advance_stop ht hp, advance_stop ht' hp]
    | act a k => rw [advance_act ht hp, advance_act ht' hp, Act.perform_leaveWait]; rfl
    | poll e a => rw [advance_poll ht hp, advance_poll ht' hp]; rfl
    | take d k =>
      cases hq : s.rxQueue with
      | nil => rw [advance_take_nil ht hp hq, advance_take_nil ht' hp hq]
      | cons b q => rw [advance_take_cons ht hp hq, advance_take_cons ht' hp hq, State.takeByte_leaveWait]; rfl
    | judge b g => rw [advance_judge ht hp, advance_judge ht' hp]; rfl
  · rw [advance_of_timer_ne ht, advance_of_timer_ne (s := s.leaveWait) ht]
    rfl

theorem State.accepted_leaveWait (s : State) (i : Instr) : s.leaveWait.accepted i = (s.accepted i).leaveWait := by
  cases i <;> rfl

@[simp] theorem advance_inWait (s : State) : (advance s).inWait = s.inWait :=
  advance_keeps (P := fun u => u.inWait = s.inWait) (hTick := fun _ h => h) (hA := fun a _ h => by cases a <;> exact h)
    (hP := fun _ _ h => h) (hT := fun _ d _ _ _ h => by cases d <;> exact h) (hV := fun _ h => h)
    (hPlan := fun _ _ h => h) s rfl

@[simp] theorem advance_inputs (s : State) : (advance s).inputs = s.inputs :=
  advance_keeps (P := fun u => u.inputs = s.inputs) (hTick := fun _ h => h) (hA := fun a _ h => by cases a <;> exact h)
    (hP := fun _ _ h => h) (hT := fun _ d _ _ _ h => by cases d <;> exact h) (hV := fun _ h => h)
    (hPlan := fun _ _ h => h) s rfl

@[simp] theorem State.accepted_inputs (s : State) (i : Instr) : (s.accepted i).inputs = s.inputs := by
  cases i <;> rfl

theorem State.pollStatus_of_inWait_eq_false {s : State} (h : s.inWait = false) : s.pollStatus = s := by
  simp [State.pollStatus, h]

/-- With no input and the host in no WAIT, a step is a move of the block. -/
theorem step_eq_advance {s : State} (hi : s.inputs = []) (hw : s.inWait = false) : step s = .next (advance s) := by
  have hw' : (advance s).inWait = false := (advance_inWait s).trans hw
  simp only [step, hi, State.pollStatus_of_inWait_eq_false hw']

theorem run_core_succ {s u : State} (n : Nat) (h : step s = .next u) :
    Host.Core.run core (n + 1) s = Host.Core.run core n u := by
  have h' : core.step s = .next u := h
  simp only [Host.Core.run, h']

/-- Steps without input are moves. -/
theorem run_core_eq_iterate_advance (n : Nat) :
    ∀ s : State, s.inputs = [] → s.inWait = false → Host.Core.run core n s = .next (advance^[n] s) := by
  induction n with
  | zero => exact fun _ _ _ => rfl
  | succ n ih =>
    intro s hi hw
    rw [run_core_succ n (step_eq_advance hi hw), Function.iterate_succ_apply]
    exact ih (advance s) (by simpa using hi) (by simpa using hw)

/-- The write of CMD accepts the command, and the host is in no WAIT. -/
theorem step_write_cmd {word : Word} {i : Instr} {s a : State} (hin : s.inputs = []) (hd : decode word = .ok i)
    (ha : acceptInstr i s = .next a) :
    step { s with inputs := [.other (.write 0x000#10 word)] } = .next a.leaveWait := by
  obtain ⟨hi, hal, rfl⟩ := acceptInstr_eq_next_iff.mp ha
  have hb : s.leaveWait.busy = false := busy_eq_false.mpr hi
  have hacc : acceptInstr i s.leaveWait = .next (s.accepted i).leaveWait :=
    (acceptInstr_of_allowed (s := s.leaveWait) hi (by cases i <;> exact hal)).trans (by rw [State.accepted_leaveWait])
  have hwrite : hostWrite 0x000#10 word s.leaveWait = .next (s.accepted i).leaveWait := by
    simp [hostWrite, withCommand, hb, hd, hacc]
  have hs : ({ s with inputs := [] } : State) = s := by rw [← hin]
  simp only [step, deliver, hs, hwrite, andThen]
  rfl

/-- Settles O21: the write of CMD accepts the command, and the moves that make up its run are the steps that follow. -/
theorem sequencerReachesTheCall : Obligations.SequencerReachesTheCall := by
  intro word i s t hin hd h
  obtain ⟨a, n, ha, rfl⟩ := exec_next_iterate h
  have hai : a.leaveWait.inputs = [] := by
    obtain ⟨-, -, rfl⟩ := acceptInstr_eq_next_iff.mp ha
    simpa using hin
  have hcomm : advance^[n] a.leaveWait = (advance^[n] a).leaveWait :=
    (Function.Commute.iterate_left (f := advance) (g := State.leaveWait) advance_leaveWait n) a
  refine ⟨n + 1, ?_⟩
  rw [run_core_succ n (step_write_cmd hin hd ha), run_core_eq_iterate_advance n _ hai rfl, hcomm]
  rfl

end Sys2Proof.Machine
end

section
/-! The host port (R19, R21, R36, R37, R45): what each register reads, and what a write to it does. -/

namespace Sys2Proof.Machine

/-! ### Which register a number names -/

theorem isTxNum_iff {num : BitVec 10} : isTxNum num = true ↔ 0x100 ≤ num.toNat ∧ num.toNat < 0x200 := by
  simp [isTxNum]

theorem isRxNum_iff {num : BitVec 10} : isRxNum num = true ↔ 0x200 ≤ num.toNat ∧ num.toNat < 0x300 := by
  simp [isRxNum]

/-- A number of a buffer is none of the four registers below them. -/
theorem ne_of_isTxNum_or_isRxNum {num k : BitVec 10} (h : isTxNum num = true ∨ isRxNum num = true)
    (hk : k.toNat < 0x100) : num ≠ k := by
  rw [isTxNum_iff, isRxNum_iff] at h
  rintro rfl
  omega

/-- But for RXBUF while BUSY, the host gets what the register reads. -/
theorem hostRead_rdata {num : BitVec 10} {s : State} (h : isRxNum num = false ∨ s.seq = .idle) :
    (hostRead num s).rdata = s.readReg num := by
  rw [← busy_eq_false] at h
  have : (isRxNum num && s.busy) = false := by rcases h with h | h <;> simp [h]
  simp [hostRead, this]

theorem State.readReg_buffer {num : BitVec 10} (s : State) (h : isTxNum num = true ∨ isRxNum num = true) :
    s.readReg num = (Memory.read s.mem num.toNat).setWidth 32 := by
  have hne : ∀ k : BitVec 10, k.toNat < 0x100 → num ≠ k := fun k => ne_of_isTxNum_or_isRxNum h
  rw [State.readReg, if_neg (hne 1#10 (by decide)), if_neg (hne 2#10 (by decide)), if_neg (hne 3#10 (by decide)),
    if_pos (by simpa using h)]

theorem hostRead_txbuf {num : BitVec 10} (s : State) (hlo : 0x100 ≤ num.toNat) (hhi : num.toNat < 0x200) :
    (hostRead num s).rdata = (Memory.read s.mem num.toNat).setWidth 32 := by
  have hrx : isRxNum num = false := by
    rw [Bool.eq_false_iff, ne_eq, isRxNum_iff]
    omega
  rw [hostRead_rdata (.inl hrx), s.readReg_buffer (.inl (isTxNum_iff.mpr ⟨hlo, hhi⟩))]

theorem hostRead_rxbuf {num : BitVec 10} {s : State} (hlo : 0x200 ≤ num.toNat) (hhi : num.toNat < 0x300)
    (hi : s.seq = .idle) : (hostRead num s).rdata = (Memory.read s.mem num.toNat).setWidth 32 := by
  rw [hostRead_rdata (.inr hi), s.readReg_buffer (.inr (isRxNum_iff.mpr ⟨hlo, hhi⟩))]

theorem State.readReg_reserved {num : BitVec 10} (s : State)
    (h : num = 0#10 ∨ (4 ≤ num.toNat ∧ num.toNat < 0x100) ∨ 0x300 ≤ num.toNat) : s.readReg num = 0#32 := by
  have hne : num ≠ 1#10 ∧ num ≠ 2#10 ∧ num ≠ 3#10 := by
    refine ⟨?_, ?_, ?_⟩ <;> rintro rfl <;> simp at h
  have hbuf : (isTxNum num || isRxNum num) = false := by
    rw [Bool.eq_false_iff, ne_eq, Bool.or_eq_true, isTxNum_iff, isRxNum_iff]
    rcases h with rfl | h
    · decide
    · omega
  rw [State.readReg, if_neg hne.1, if_neg hne.2.1, if_neg hne.2.2, hbuf, if_neg Bool.false_ne_true]

/-! ### Writes -/

theorem hostWrite_txbuf {num : BitVec 10} {s : State} (v : Word) (hlo : 0x100 ≤ num.toNat) (hhi : num.toNat < 0x200)
    (hi : s.seq = .idle) :
    hostWrite num v s = .next { s with mem := Memory.write s.mem num.toNat (v.setWidth 8) } := by
  have htx : isTxNum num = true := isTxNum_iff.mpr ⟨hlo, hhi⟩
  have hne : num ≠ 0#10 := ne_of_isTxNum_or_isRxNum (.inl htx) (by decide)
  simp [hostWrite, hne, htx, busy_eq_false.mpr hi]

theorem hostWrite_ignored {num : BitVec 10} (v : Word) (s : State) (hne : num ≠ 0#10)
    (hout : ¬ (0x100 ≤ num.toNat ∧ num.toNat < 0x200)) : hostWrite num v s = .next s := by
  have htx : isTxNum num = false := by rwa [Bool.eq_false_iff, ne_eq, isTxNum_iff]
  simp [hostWrite, hne, htx]

/-- The low byte of a word, zero-extended (R36, decision D3). -/
theorem setWidth_setWidth_eq_and (v : Word) : (v.setWidth 8).setWidth 32 = v &&& 0xFF#32 := by
  refine BitVec.eq_of_toNat_eq ?_
  rw [BitVec.toNat_and, show (0xFF#32).toNat = 2 ^ 8 - 1 from rfl, Nat.and_two_pow_sub_one_eq_mod,
    BitVec.toNat_setWidth_of_le (by decide), BitVec.toNat_setWidth]

/-- Settles O51: the write is read back (`Memory.read_write_same`) through the register of the same number. -/
theorem txbufWriteIsReadBack : Obligations.TxbufWriteIsReadBack := by
  intro s num v hi hwf hlo hhi
  refine ⟨_, hostWrite_txbuf v hlo hhi hi, ?_, fun a ha => Memory.read_write_ne ha.symm _ s.mem⟩
  rw [hostRead_txbuf _ hlo hhi]
  exact (congrArg (BitVec.setWidth 32) (Memory.read_write_same _ hwf)).trans (setWidth_setWidth_eq_and v)

/-- Settles O52: no case of the register map but the last takes a reserved number. -/
theorem reservedAndReadOnlyRegisters : Obligations.ReservedAndReadOnlyRegisters := by
  refine fun s num v => ⟨fun h => ?_, hostWrite_ignored v s⟩
  have hrx : isRxNum num = false := by
    rw [Bool.eq_false_iff, ne_eq, isRxNum_iff]
    rcases h with rfl | h
    · decide
    · omega
  rw [hostRead_rdata (.inl hrx), s.readReg_reserved h]

/-! ### The fields of the status words -/

theorem getElem_flagBits (flag : Bool) (v : Word) (k : Nat) (hk : k < 32) :
    (flagBits flag v)[k] = (flag && v[k]) := by
  cases flag <;> simp [flagBits]

/-- A field in which the flag has no bit. -/
theorem extractLsb'_flagBits {k n : Nat} {v : Word} (h : v.extractLsb' k n = 0#n) (flag : Bool) :
    (flagBits flag v).extractLsb' k n = 0#n := by
  cases flag <;> simp [flagBits, h]

/-- A byte zero-extended, as its low 8 bits. -/
theorem extractLsb'_setWidth_low (b : Byte) : ((b.setWidth 32).extractLsb' 0 8) = b := by
  refine BitVec.eq_of_getLsbD_eq fun k hk => ?_
  simp [hk, show k < 32 by omega]

/-- A byte zero-extended has nothing above its 8 bits. -/
theorem extractLsb'_setWidth_high (b : Byte) : ((b.setWidth 32).extractLsb' 9 23) = 0#23 := by
  refine BitVec.eq_of_getLsbD_eq fun k hk => ?_
  simp [BitVec.getLsbD_of_ge b (9 + k) (by omega)]

theorem extractLsb'_result_code (r : Result) :
    (r.code.setWidth 32 <<< 2 : Word).extractLsb' 2 2 = r.code ∧
      (r.code.setWidth 32 <<< 2 : Word).extractLsb' 7 25 = 0#25 := by
  cases r <;> decide

theorem hostRead_status (s : State) : (hostRead 0x001#10 s).rdata = s.statusWord := rfl

theorem hostRead_node (s : State) : (hostRead 0x002#10 s).rdata = s.nodeWord := rfl

/-- Settles O53: each field meets the one part of STATUS that has bits there. -/
theorem statusFields : Obligations.StatusFields := by
  intro s
  simp only [hostRead_status, State.statusWord]
  refine ⟨?_, ?_, ?_, ?_, ?_, ?_, ?_⟩
  · simp [getElem_flagBits, State.busy]
  · simp [getElem_flagBits]
  · refine Eq.trans (b := s.result.code) ?_ (by cases s.result <;> rfl)
    simp [BitVec.extractLsb'_or, extractLsb'_flagBits, extractLsb'_result_code]
  · simp [getElem_flagBits]
  · simp [getElem_flagBits]
  · simp [getElem_flagBits]
  · simp [BitVec.extractLsb'_or, extractLsb'_flagBits, extractLsb'_result_code]

/-- Settles O54: the fields of NODE as those of STATUS, the buffers by their register numbers. -/
theorem nodeTimingAndBuffersRead : Obligations.NodeTimingAndBuffersRead := by
  intro s
  refine ⟨?_, rfl, fun num hlo hhi => ?_, fun num hlo hhi hi => ?_⟩
  · simp only [hostRead_node, State.nodeWord]
    refine ⟨?_, ?_, ?_⟩
    · simp [BitVec.extractLsb'_or, extractLsb'_flagBits, extractLsb'_setWidth_low]
    · simp [getElem_flagBits]
    · simp [BitVec.extractLsb'_or, extractLsb'_flagBits, extractLsb'_setWidth_high]
  · rw [hostRead_txbuf s hlo hhi, BitVec.toNat_setWidth_of_le (by decide)]
  · rw [hostRead_rxbuf hlo hhi hi, BitVec.toNat_setWidth_of_le (by decide)]

end Sys2Proof.Machine
end

section
/-! Bus activity with power control enabled (R9, R41, R137): every event the block makes finds the transceiver in the
mode the bus needs, because the rule in progress is powered (`State.Inv.powered`). -/

namespace Sys2Proof.Machine

/-- From `s` to `u` the bus was used in Normal only: after the events since `s`, what is to come is checked from the
transceiver's mode in `u`. -/
def BusSafeSince (s u : State) : Prop :=
  ∃ evs, u.trace = s.trace ++ evs ∧ ∀ rest, busInNormal s.xcvr (evs ++ rest) = busInNormal u.xcvr rest

theorem BusSafeSince.of_same {s u : State} (ht : u.trace = s.trace) (hx : u.xcvr = s.xcvr) : BusSafeSince s u :=
  ⟨[], by simp [ht], fun rest => by rw [hx]; rfl⟩

theorem BusSafeSince.append {s u v : State} {evs : List Event} (h : BusSafeSince s u) (ht : v.trace = u.trace ++ evs)
    (hb : ∀ rest, busInNormal u.xcvr (evs ++ rest) = busInNormal v.xcvr rest) : BusSafeSince s v := by
  obtain ⟨evs', ht', hb'⟩ := h
  exact ⟨evs' ++ evs, by rw [ht, ht', List.append_assoc], fun rest => by rw [List.append_assoc, hb', hb]⟩

/-- A bus event in Normal passes the check. -/
theorem busInNormal_cons_bus {e : Event} (he : e.isBus = true) (rest : List Event) :
    busInNormal .normal (e :: rest) = busInNormal .normal rest := by
  cases e with
  | ctrlLine | delay | xportConfig => cases he
  | txOverride | txByte | rxAvail | rxByte => rfl

/-! ### The moves of the block -/

theorem BusSafeSince.perform {s u : State} {a : Act} {k : Plan} (h : BusSafeSince s u)
    (hpow : (Plan.act a k).powered u.xcvr = true) : BusSafeSince s (a.perform u) := by
  refine h.append (a.trace_perform u) fun rest => ?_
  cases a with
  | txOverride | txByte =>
    have hn : u.xcvr = .normal := beq_iff_eq.mp (Bool.and_eq_true_iff.mp hpow).1
    change busInNormal u.xcvr (_ :: rest) = busInNormal u.xcvr rest
    rw [hn, busInNormal_cons_bus rfl]
  | _ => rfl

theorem BusSafeSince.answerPoll {s u : State} {e a : Plan} (h : BusSafeSince s u)
    (hpow : (Plan.poll e a).powered u.xcvr = true) (b : Bool) : BusSafeSince s (u.answerPoll b) := by
  simp only [Plan.powered, Bool.and_eq_true, beq_iff_eq] at hpow
  obtain ⟨⟨hn, -⟩, -⟩ := hpow
  exact h.append (u.answerPoll_trace b) fun rest => by
    simpa [hn] using busInNormal_cons_bus (e := .rxAvail b) rfl rest

theorem BusSafeSince.takeByte {s u : State} {d : RxDest} {k : Plan} (h : BusSafeSince s u)
    (hpow : (Plan.take d k).powered u.xcvr = true) (b : Byte) (q : List Byte) : BusSafeSince s (u.takeByte d b q) := by
  simp only [Plan.powered, Bool.and_eq_true, beq_iff_eq] at hpow
  obtain ⟨hn, -⟩ := hpow
  exact h.append (u.trace_takeByte d b q) fun rest => by
    cases d <;> simpa [hn] using busInNormal_cons_bus (e := .rxByte b) rfl rest

theorem BusSafeSince.advance {s u : State} (h : BusSafeSince s u) (hi : u.Inv) (hp : u.pwrCtrlEn = true) :
    BusSafeSince s (advance u) := by
  have hpow : ∀ p, u.plan = p → p.powered u.xcvr = true := fun _ hpl => hpl ▸ hi.powered hp
  exact advance_cases (P := BusSafeSince s) u (tick := fun _ => h) (stay := h)
    (act := fun _ _ _ hpl => h.perform (hpow _ hpl))
    (poll := fun _ _ b _ hpl _ => h.answerPoll (hpow _ hpl) b)
    (take := fun _ _ b q hpl => h.takeByte (hpow _ hpl) b q)
    (judge := fun _ _ _ _ _ => h)

/-- No move of the block writes the static input PWR_CTRL_EN (R77). -/
@[simp] theorem advance_pwrCtrlEn (s : State) : (advance s).pwrCtrlEn = s.pwrCtrlEn :=
  advance_keeps (P := fun u => u.pwrCtrlEn = s.pwrCtrlEn)
    (hTick := fun _ h => h)
    (hA := fun a u h => (a.perform_pwrCtrlEn u).trans h)
    (hP := fun _ _ h => h)
    (hT := fun u d b q _ h => (u.takeByte_pwrCtrlEn d b q).trans h)
    (hV := fun _ h => h)
    (hPlan := fun _ _ h => h)
    s rfl

/-! ### Commands, acts from outside, and steps -/

@[simp] theorem State.accepted_pwrCtrlEn (s : State) (i : Instr) : (s.accepted i).pwrCtrlEn = s.pwrCtrlEn :=
  identified_pwrCtrlEn s i

@[simp] theorem State.accepted_xcvr (s : State) (i : Instr) : (s.accepted i).xcvr = s.xcvr := by
  cases i <;> rfl

theorem busSafeSince_of_exec {i : Instr} {s t : State} (h : s.Inv) (hp : s.pwrCtrlEn = true)
    (ht : exec i s = .next t) : BusSafeSince s t := by
  obtain ⟨-, -, hsafe⟩ : t.Inv ∧ t.pwrCtrlEn = true ∧ BusSafeSince s t := by
    refine exec_induction (P := fun u => u.Inv ∧ u.pwrCtrlEn = true ∧ BusSafeSince s u) ht (fun a ha => ?_) ?_
    · obtain ⟨-, -, rfl⟩ := acceptInstr_eq_next_iff.mp ha
      exact ⟨h.acceptInstr ha, by rw [State.accepted_pwrCtrlEn, hp], .of_same (acceptInstr_trace ha) (s.accepted_xcvr i)⟩
    · rintro u ⟨hi, hpu, hu⟩
      exact ⟨hi.advance, by rw [advance_pwrCtrlEn, hpu], hu.advance hi hpu⟩
  exact hsafe

/-- The events from `s` to `t` use the bus in Normal only. Unlike `BusSafeSince` it says nothing of the mode in `t`, which
a reset puts to Sleep without an event (R140). -/
def AddsSafeEvents (s t : State) : Prop := ∃ evs, t.trace = s.trace ++ evs ∧ busInNormal s.xcvr evs = true

theorem BusSafeSince.addsSafeEvents {s t : State} (h : BusSafeSince s t) : AddsSafeEvents s t := by
  obtain ⟨evs, ht, hb⟩ := h
  exact ⟨evs, ht, by simpa [busInNormal] using hb []⟩

theorem AddsSafeEvents.of_trace_eq {s t : State} (h : t.trace = s.trace) : AddsSafeEvents s t :=
  ⟨[], by simp [h], rfl⟩

theorem AddsSafeEvents.pollStatus {s t : State} (h : AddsSafeEvents s t) : AddsSafeEvents s t.pollStatus := by
  rwa [AddsSafeEvents, State.pollStatus_trace]

/-- Of the acts from outside only `run`, the block's own move, makes an event. -/
theorem addsSafeEvents_of_deliver {x : Stimulus} {s t : State} (h : s.Inv) (hp : s.pwrCtrlEn = true)
    (ht : deliver x s = .next t) : AddsSafeEvents s t := by
  cases x with
  | run =>
    cases ht
    exact ((BusSafeSince.of_same rfl rfl).advance h hp).addsSafeEvents
  | write num v => exact .of_trace_eq (hostWrite_trace (s := s.leaveWait) ht)
  | read num => cases ht; exact .of_trace_eq (by simp)
  | wait | arrive | rxBecomes | shift | reset => cases ht; exact .of_trace_eq rfl

/-- Settles O17, along what a step can be (`step_next`): a move, a command, or an act from outside. -/
theorem busActivityOnlyInNormal : Obligations.BusActivityOnlyInNormal := by
  intro s t h hp hst
  have hin : ∀ rest, ({ s with inputs := rest } : State).Inv := h.with_environment _ _ _ _ _
  obtain ⟨-, rfl⟩ | ⟨word, rest, i, u, -, -, hu, rfl⟩ | ⟨x, rest, u, -, hu, rfl⟩ := step_next hst
  · exact ((BusSafeSince.of_same rfl rfl).advance h hp).addsSafeEvents.pollStatus
  · have hu : AddsSafeEvents s u.enterWait := (busSafeSince_of_exec (hin rest) hp hu).addsSafeEvents
    exact hu.pollStatus
  · have hu : AddsSafeEvents { s with inputs := rest } u := addsSafeEvents_of_deliver (hin rest) hp hu
    exact hu.pollStatus

end Sys2Proof.Machine
end

section
/-! The copy of an accepted window (R44): WIN[2 .. n+1] goes to RXBUF[0 .. n-1], and nothing else is written. -/

namespace Sys2Proof.Machine

theorem length_windowPayload {w : List Byte} {n : Nat} (h : n + 2 ≤ w.length) : (windowPayload w n).length = n := by
  rw [windowPayload, List.length_take, List.length_drop]
  omega

theorem getElem_windowPayload {w : List Byte} {n i : Nat} (hi : i < (windowPayload w n).length)
    (hw : i + 2 < w.length) : (windowPayload w n)[i] = w[i + 2] := by
  simp [windowPayload, Nat.add_comm]

/-- The copy leaves every byte outside RXBUF[0 .. n-1] alone. -/
theorem State.read_copyPayload_outside {s : State} {a : Nat} (h : a < 0x200 ∨ 0x200 + s.opLen.toNat ≤ a) :
    Memory.read s.copyPayload.mem a = Memory.read s.mem a := by
  have hlen := length_windowPayload_le s.win s.opLen.toNat
  exact Memory.read_writeBytes_outside _ _ _ a (by omega)

/-- Settles O31: the bytes of the row are read back in order, and RXBUF[n ..] and TXBUF lie outside it. -/
theorem windowToBuffer : Obligations.WindowToBuffer := by
  intro s hwf hwin
  refine ⟨fun i hw hi => ?_, fun i hi => ?_, fun i => ?_⟩
  · have hlen : i.toNat < (windowPayload s.win s.opLen.toNat).length := by
      rwa [length_windowPayload (by omega)]
    rw [← getElem_windowPayload hlen hw]
    exact Memory.read_writeBytes_inside _ _ i.toNat hlen hwf
  · exact State.read_copyPayload_outside (.inr (Nat.add_le_add_left hi _))
  · exact State.read_copyPayload_outside (.inl (txAddr_range i).2)

end Sys2Proof.Machine
end

section
/-! The frames of the writes and of the system commands (R33, R95 to R99, R115 to R117). -/

namespace Sys2Proof.Machine

/-! ### The writes -/

/-- The actions that occur in the rules of the writes. -/
def Act.ofWrite : Act → Prop
  | .ctrlLine _ | .txOverride _ | .delay _ | .txByte _ | .goto _ | .ret _ => True
  | .xportConfig | .markConfigured | .markConstructed | .copyPayload | .spoilPayload => False

/-- A write takes no byte, and its actions are those of `Act.ofWrite`. -/
theorem planOf_isWrite_all {i : Instr} (h : Spec.isWrite i) (pwr : Bool) :
    (planOf pwr i).All Act.ofWrite fun _ => False := by
  obtain ⟨id, len, rfl⟩ | ⟨id, rfl⟩ | ⟨len, rfl⟩ | ⟨len, rfl⟩ := h <;> cases pwr <;>
    simp +contextual [planOf, planWrite, planWriteReq, planWriteResp, planWriteStream, closing, enterNormal, enterSleep,
      emitBreak, sendPayload, Act.ofWrite, or_imp]

/-- `u` is in a write accepted in `s`, or after it, and differs from `s` only in what a write may change. -/
def WriteKeeps (s u : State) : Prop :=
  (∀ a, Memory.read u.mem a = Memory.read s.mem a) ∧ u.role = s.role ∧ u.ident = s.ident ∧
  u.constructed = s.constructed ∧ u.rxConfigured = s.rxConfigured ∧ u.rdata = s.rdata ∧ u.inWait = s.inWait ∧
  u.rxQueue = s.rxQueue ∧ u.xport = s.xport ∧ u.draws = s.draws ∧ u.pwrCtrlEn = s.pwrCtrlEn ∧
  u.txDrain = s.txDrain ∧ u.inputs = s.inputs

theorem WriteKeeps.perform {s u : State} {a : Act} (h : WriteKeeps s u) (ha : a.ofWrite) :
    WriteKeeps s (a.perform u) := by
  cases a with
  | xportConfig | markConfigured | markConstructed | copyPayload | spoilPayload => exact ha.elim
  | ctrlLine | txOverride | delay | txByte | goto | ret => exact h

/-- Settles O39: every action of the four rules keeps the frame. -/
theorem writesFrame : Obligations.WritesFrame := by
  intro i s t hw h
  obtain ⟨-, -, rfl⟩ := exec_next_accepted h
  have hAccepted : WriteKeeps s (s.accepted i) := by
    obtain ⟨id, len, rfl⟩ | ⟨id, rfl⟩ | ⟨len, rfl⟩ | ⟨len, rfl⟩ := hw <;>
      exact ⟨fun _ => rfl, rfl, rfl, rfl, rfl, rfl, rfl, rfl, rfl, rfl, rfl, rfl, rfl⟩
  exact Plan.All.run_keeps (P := WriteKeeps s)
    (hE := fun _ h => h)
    (hA := fun a u ha h => h.perform ha)
    (hP := fun _ _ h => h)
    (hT := fun _ _ _ _ hd _ => hd.elim)
    (hV := fun _ h => h)
    (hPlan := fun _ _ h => h)
    _ _ (planOf_isWrite_all hw s.pwrCtrlEn) hAccepted

/-! ### The system commands, run whole -/

theorem planConstructM_run (s : State) :
    planConstructM.run s =
      { s with
        constructed := true, done := true, seq := .idle, plan := .stop, timer := 0#16,
        trace := s.trace ++ [.delay initTime] } := by
  simp [planConstructM, Plan.after, Act.perform, State.startDelay, State.emit, State.elapse, State.finish,
    State.resultAfter]

theorem planConstructS_run (s : State) (pwr : Bool) :
    (planConstructS pwr).run s =
      { s with
        constructed := true, done := true, seq := .idle, plan := .stop, timer := 0#16,
        xcvr := if pwr then .normal else s.xcvr, ctrl := if pwr then .normal else s.ctrl,
        trace := s.trace ++ [.delay initTime] ++ if pwr then [.ctrlLine .normal, .delay settleTime] else [] } := by
  cases pwr <;>
    simp [planConstructS, enterNormal, Plan.after, Act.perform, State.goto, State.driveCtrl, State.startDelay, State.emit,
      State.elapse, State.finish, State.resultAfter, State.pendingAt]

theorem planCfgRx_run (s : State) :
    planCfgRx.run s =
      { s with
        rxConfigured := true, xport := some Config.baud, done := true, seq := .idle, plan := .stop, timer := 0#16,
        trace := s.trace ++ [.xportConfig Config.baud] } := by
  simp [planCfgRx, Plan.after, Act.perform, State.configureTransport, State.emit, State.elapse, State.finish,
    State.resultAfter]

/-- Settles O57: each of the three next states, read off field by field. -/
theorem systemCommandsFrame : Obligations.SystemCommandsFrame := by
  intro i s t hi h
  obtain ⟨-, -, rfl⟩ := exec_next_accepted h
  obtain ⟨mode, rfl⟩ | ⟨mode, id, rfl⟩ | rfl := hi
  · rw [planOf, planConstructM_run]
    exact ⟨fun _ => rfl, rfl, rfl, rfl, rfl, rfl, rfl, rfl, rfl, rfl, rfl, .inr ⟨rfl, rfl, rfl⟩, .inr ⟨nofun, rfl, rfl⟩⟩
  · rw [planOf, planConstructS_run]
    exact ⟨fun _ => rfl, rfl, rfl, rfl, rfl, rfl, rfl, rfl, rfl, rfl, rfl, .inl ⟨mode, id, rfl⟩, .inr ⟨nofun, rfl, rfl⟩⟩
  · rw [planOf, planCfgRx_run]
    exact ⟨fun _ => rfl, rfl, rfl, rfl, rfl, rfl, rfl, rfl, rfl, rfl, rfl, .inr ⟨rfl, rfl, rfl⟩, .inl ⟨rfl, rfl, rfl⟩⟩

end Sys2Proof.Machine
end

section
/-! The host's access to a block that runs a command (R37, R42, R45; U1, U20). -/

namespace Sys2Proof.Machine

/-- BUSY is the first precondition of every command (log entry 12). -/
theorem acceptInstr_of_busy {s : State} (h : s.busy = true) (i : Instr) : acceptInstr i s = .refused .busy := by
  cases i <;>
    simp [acceptInstr, acceptConstructM, acceptConstructS, acceptCfgRx, acceptWrite, acceptWriteReq, acceptWriteResp,
      acceptWriteStream, acceptRead, acceptReadStream, whenFresh, whenReady, h]

theorem hostWrite_cmd_of_busy {s : State} (h : s.busy = true) (v : Word) :
    hostWrite 0x000#10 v s = .refused .busy := by
  simp [hostWrite, withCommand, h]

theorem hostWrite_txbuf_of_busy {s : State} {num : BitVec 10} (h : s.busy = true) (v : Word)
    (htx : isTxNum num = true) : hostWrite num v s = .refused .busy := by
  have hne : num ≠ 0#10 := ne_of_isTxNum_or_isRxNum (.inl htx) (by decide)
  simp [hostWrite, hne, htx, h]

/-- Settles O8: commands by their acceptance, the two kinds of writes by the register they name. -/
theorem busyBlockRefusesCommands : Obligations.BusyBlockRefusesCommands := by
  intro s hs
  have hb : s.busy = true := bne_iff_ne.mpr hs
  refine ⟨fun i => ?_, fun num v hnum => ?_⟩
  · rw [exec_eq_complete, acceptInstr_of_busy hb]
    rfl
  · obtain rfl | htx := hnum
    · exact hostWrite_cmd_of_busy hb v
    · exact hostWrite_txbuf_of_busy hb v (isTxNum_iff.mpr htx)

/-- Settles O55: a draw is made in the one case of `hostRead` for RXBUF while BUSY. -/
theorem hostReadsHaveNoSideEffect : Obligations.HostReadsHaveNoSideEffect := by
  intro s num
  unfold hostRead
  split
  next hc =>
    obtain ⟨hrx, hb⟩ := Bool.and_eq_true_iff.mp hc
    refine ⟨_, _, rfl, fun h => ?_⟩
    obtain hi | hn := h
    · exact absurd hi (bne_iff_ne.mp hb)
    · exact absurd (isRxNum_iff.mp hrx) hn
  · exact ⟨_, s.draws, rfl, fun _ => rfl⟩

end Sys2Proof.Machine
end

section
/-! The decoder and the encoder (R55, R56, R59, R60, R63; decision D4): a word decodes to a command exactly if its five
fields are those of the command's word, so the two are inverse to each other; and R59's mask and match columns select
the same words. -/

namespace Sys2Proof.Machine

/-! ### The fields of a command's word -/

/-- The operation code of each command (R59). -/
def opcode : Instr → Byte
  | .constructM _ => 0x01#8
  | .constructS _ _ => 0x02#8
  | .cfgRx => 0x03#8
  | .write _ _ => 0x10#8
  | .writeReq _ => 0x11#8
  | .writeResp _ => 0x12#8
  | .writeStream _ => 0x13#8
  | .read _ => 0x20#8
  | .readStream _ => 0x21#8

/-- The operand fields of a command's word are what the command latches (R17, R63). -/
theorem encode_eq_assemble (i : Instr) : encode i = assemble (opcode i) (idLatch i) (lenLatch i) (modeLatch i) := by
  cases i <;> rfl

/-- The fields of the word are those of the command's word. -/
def HasFieldsOf (w : Word) (i : Instr) : Prop :=
  highOf w = 0#7 ∧ opcOf w = opcode i ∧ idOf w = idLatch i ∧ lenOf w = lenLatch i ∧ modeOf w = modeLatch i

theorem hasFieldsOf_encode (i : Instr) : HasFieldsOf (encode i) i := by
  rw [encode_eq_assemble]
  exact ⟨highOf_assemble .., opcOf_assemble .., idOf_assemble .., lenOf_assemble .., modeOf_assemble ..⟩

theorem encode_eq_of_hasFieldsOf {w : Word} {i : Instr} (h : HasFieldsOf w i) : encode i = w := by
  obtain ⟨hh, ho, hi, hl, hm⟩ := h
  rw [encode_eq_assemble, ← ho, ← hi, ← hl, ← hm, assemble_fields w hh]

/-! ### The decoder -/

theorem unusedZero_eq_ok_iff {zero : Bool} {i j : Instr} : unusedZero zero i = .ok j ↔ zero = true ∧ i = j := by
  cases zero <;> simp [unusedZero]

theorem decode_eq_ok_of_hasFieldsOf {w : Word} {i : Instr} (h : HasFieldsOf w i) : decode w = .ok i := by
  obtain ⟨hh, ho, hi, hl, hm⟩ := h
  cases i <;> simp only [decode, hh, ho, hi, hl, hm] <;> rfl

theorem hasFieldsOf_of_decode_eq_ok {w : Word} {i : Instr} (h : decode w = .ok i) : HasFieldsOf w i := by
  simp only [decode, ite_eq_iff, unusedZero_eq_ok_iff, reduceCtorEq, and_false, false_or, or_false, not_not] at h
  obtain ⟨hh, h⟩ := h
  rcases h with ⟨ho, hz, rfl⟩ | ⟨-, ⟨ho, hz, rfl⟩ | ⟨-, ⟨ho, hz, rfl⟩ | ⟨-, ⟨ho, hz, rfl⟩ | ⟨-, ⟨ho, hz, rfl⟩ |
    ⟨-, ⟨ho, hz, rfl⟩ | ⟨-, ⟨ho, hz, rfl⟩ | ⟨-, ⟨ho, hz, rfl⟩ | ⟨-, ho, hz, rfl⟩⟩⟩⟩⟩⟩⟩⟩
  all_goals
    simp only [Bool.and_eq_true, Bool.not_eq_true', beq_iff_eq] at hz
    refine ⟨hh, ho, ?_, ?_, ?_⟩ <;> simp only [idLatch, lenLatch, modeLatch, hz]

/-- Settles O1: the encoded word has the fields the decoder looks for. -/
theorem decodeOfEncode : Obligations.DecodeOfEncode :=
  fun i => decode_eq_ok_of_hasFieldsOf (hasFieldsOf_encode i)

/-- Settles O2: a word is assembled from its fields. -/
theorem encodeOfDecode : Obligations.EncodeOfDecode :=
  fun _ _ h => encode_eq_of_hasFieldsOf (hasFieldsOf_of_decode_eq_ok h)

/-- Settles O4: each of the nine words is the encoded word of its command, and no command has the operation code 0x30. -/
theorem specWordsDecode : Obligations.SpecWordsDecode :=
  ⟨decodeOfEncode (.constructM true), decodeOfEncode (.constructS true 0x10#8), decodeOfEncode .cfgRx,
    decodeOfEncode (.write 0x10#8 3#8), decodeOfEncode (.writeReq 0x10#8), decodeOfEncode (.writeResp 2#8),
    decodeOfEncode (.writeStream 12#8), decodeOfEncode (.read 3#8), decodeOfEncode (.readStream 255#8), rfl⟩

/-! ### R59's mask and match columns -/

theorem row_mem_rows (i : Instr) : i.row ∈ rows := by
  cases i <;> simp [rows, Instr.row]

theorem row_hits_encode (i : Instr) : i.row.hits (encode i) = true := by
  refine beq_iff_eq.mpr ?_
  cases i with
  | constructM mode => exact Laws.EncodedUnderMask.constructM mode
  | constructS mode id => exact Laws.EncodedUnderMask.constructS mode id
  | cfgRx => exact Laws.EncodedUnderMask.cfgRx
  | write id len => exact Laws.EncodedUnderMask.write id len
  | writeReq id => exact Laws.EncodedUnderMask.writeReq id
  | writeResp len => exact Laws.EncodedUnderMask.writeResp len
  | writeStream len => exact Laws.EncodedUnderMask.writeStream len
  | read len => exact Laws.EncodedUnderMask.read len
  | readStream len => exact Laws.EncodedUnderMask.readStream len

/-- Under the mask of a command's row a word that the row takes has the fields of the command's word. -/
theorem masked_fields_of_hits {w : Word} {i : Instr} (h : i.row.hits w = true) :
    highOf w &&& highOf i.row.mask = 0#7 &&& highOf i.row.mask ∧
      opcOf w &&& opcOf i.row.mask = opcode i &&& opcOf i.row.mask ∧
      idOf w &&& idOf i.row.mask = idLatch i &&& idOf i.row.mask ∧
      lenOf w &&& lenOf i.row.mask = lenLatch i &&& lenOf i.row.mask ∧
      (modeOf w && modeOf i.row.mask) = (modeLatch i && modeOf i.row.mask) := by
  have hand : w &&& i.row.mask = encode i &&& i.row.mask :=
    (beq_iff_eq.mp h).trans (beq_iff_eq.mp (row_hits_encode i)).symm
  obtain ⟨hh, ho, hi, hl, hm⟩ := hasFieldsOf_encode i
  rw [← hh, ← ho, ← hi, ← hl, ← hm]
  simp only [highOf, opcOf, idOf, lenOf, modeOf, ← BitVec.extractLsb'_and, ← BitVec.getLsbD_and, hand, and_self]

theorem byte_and_ones (b : Byte) : b &&& 0xFF#8 = b := BitVec.and_allOnes

theorem high_and_ones (b : BitVec 7) : b &&& 0x7F#7 = b := BitVec.and_allOnes

/-- The command of the same row with the operands that stand in the word. -/
def withOperandsOf (w : Word) : Instr → Instr
  | .constructM _ => .constructM (modeOf w)
  | .constructS _ _ => .constructS (modeOf w) (idOf w)
  | .cfgRx => .cfgRx
  | .write _ _ => .write (idOf w) (lenOf w)
  | .writeReq _ => .writeReq (idOf w)
  | .writeResp _ => .writeResp (lenOf w)
  | .writeStream _ => .writeStream (lenOf w)
  | .read _ => .read (lenOf w)
  | .readStream _ => .readStream (lenOf w)

theorem row_withOperandsOf (w : Word) (i : Instr) : (withOperandsOf w i).row = i.row := by
  cases i <;> rfl

/-- Every row masks the operation code and the bits that must be 0. -/
theorem opcOf_mask_and_highOf_mask (i : Instr) : opcOf i.row.mask = 0xFF#8 ∧ highOf i.row.mask = 0x7F#7 :=
  (show ∀ r ∈ rows, opcOf r.mask = 0xFF#8 ∧ highOf r.mask = 0x7F#7 by decide) i.row (row_mem_rows i)

/-- The masks of the rows whose command has no ID operand, and of those whose command has no LEN operand. -/
theorem idOf_mask : idOf 0xFEFFFFFF#32 = 0xFF#8 ∧ idOf 0xFFFFFFFF#32 = 0xFF#8 ∧ idOf 0xFF00FFFF#32 = 0xFF#8 := by
  decide

theorem lenOf_mask : lenOf 0xFEFFFFFF#32 = 0xFF#8 ∧ lenOf 0xFEFF00FF#32 = 0xFF#8 ∧ lenOf 0xFFFFFFFF#32 = 0xFF#8 ∧
    lenOf 0xFFFF00FF#32 = 0xFF#8 := by
  decide

theorem idOf_eq_of_masked {w : Word} {i : Instr} (h : idOf w &&& idOf i.row.mask = idLatch i &&& idOf i.row.mask) :
    idOf w = idLatch (withOperandsOf w i) := by
  cases i with
  | constructS | write | writeReq => rfl
  | constructM | cfgRx | writeResp | writeStream | read | readStream =>
    simp only [Instr.row, idOf_mask, byte_and_ones] at h
    exact h

theorem lenOf_eq_of_masked {w : Word} {i : Instr} (h : lenOf w &&& lenOf i.row.mask = lenLatch i &&& lenOf i.row.mask) :
    lenOf w = lenLatch (withOperandsOf w i) := by
  cases i with
  | write | writeResp | writeStream | read | readStream => rfl
  | constructM | constructS | cfgRx | writeReq =>
    simp only [Instr.row, lenOf_mask, byte_and_ones] at h
    exact h

theorem modeOf_eq_of_masked {w : Word} {i : Instr}
    (h : (modeOf w && modeOf i.row.mask) = (modeLatch i && modeOf i.row.mask)) :
    modeOf w = modeLatch (withOperandsOf w i) := by
  cases i with
  | constructM | constructS => rfl
  | cfgRx | write | writeReq | writeResp | writeStream | read | readStream =>
    simp only [Instr.row] at h
    exact (Bool.and_true _).symm.trans h

theorem opcode_withOperandsOf (w : Word) (i : Instr) : opcode (withOperandsOf w i) = opcode i := by
  cases i <;> rfl

/-- Of a word that a row takes the masked fields are fixed, and the others are the operands. -/
theorem hasFieldsOf_of_hits {w : Word} {i : Instr} (h : i.row.hits w = true) : HasFieldsOf w (withOperandsOf w i) := by
  obtain ⟨hh, ho, hi, hl, hm⟩ := masked_fields_of_hits h
  obtain ⟨hopc, hhigh⟩ := opcOf_mask_and_highOf_mask i
  rw [hhigh, high_and_ones, high_and_ones] at hh
  rw [hopc, byte_and_ones, byte_and_ones] at ho
  exact ⟨hh, ho.trans (opcode_withOperandsOf w i).symm, idOf_eq_of_masked hi, lenOf_eq_of_masked hl,
    modeOf_eq_of_masked hm⟩

/-- The table has one row for each command. -/
theorem rows_eq_map_row :
    rows = [.constructM true, .constructS true 0#8, .cfgRx, .write 0#8 0#8, .writeReq 0#8, .writeResp 0#8,
      .writeStream 0#8, .read 0#8, .readStream 0#8].map Instr.row := rfl

/-- Settles O3: a word that decodes is the encoded word, which its row takes; a word that a row takes has the fields of a
command of that row. -/
theorem decodeAcceptsTheTable : Obligations.DecodeAcceptsTheTable := by
  refine fun w => ⟨fun i h => ⟨row_mem_rows i, ?_⟩, fun r hr h => ?_⟩
  · rw [← encodeOfDecode w i h]
    exact row_hits_encode i
  · rw [rows_eq_map_row] at hr
    obtain ⟨i, -, rfl⟩ := List.mem_map.mp hr
    exact ⟨withOperandsOf w i, decode_eq_ok_of_hasFieldsOf (hasFieldsOf_of_hits h), row_withOperandsOf w i⟩

end Sys2Proof.Machine
end

section
/-! Commands allowed and refused (R42, R60, R61, R117, R118, R129; decisions D9, D10, D13, D14, D18): a command has a next
state exactly if it is allowed, and each broken precondition, and a reserved word, has its own refusal. -/

namespace Sys2Proof.Machine

/-- A command that is allowed is its rule run from its acceptance. -/
theorem exec_of_allowed {i : Instr} {s : State} (hi : s.seq = .idle) (ha : allowed s i = true) :
    exec i s = .next ((planOf s.pwrCtrlEn i).run (s.accepted i)) := by
  rw [exec_eq_complete, acceptInstr_of_allowed hi ha]
  rfl

/-- Settles O7: the acceptance of a command says when it has a next state, and there are no faults. -/
theorem commandRunsExactlyWhenAllowed : Obligations.CommandRunsExactlyWhenAllowed := by
  intro i s
  have hiff : (∃ t, exec i s = .next t) ↔ s.seq = .idle ∧ allowed s i = true := by
    constructor
    · rintro ⟨t, ht⟩
      obtain ⟨hi, ha, -⟩ := exec_next_accepted ht
      exact ⟨hi, ha⟩
    · rintro ⟨hi, ha⟩
      exact ⟨_, exec_of_allowed hi ha⟩
  refine ⟨hiff, fun hn => ?_⟩
  cases he : exec i s with
  | next t => exact absurd (hiff.mp ⟨t, he⟩) hn
  | fault f => exact nomatch f
  | refused r => exact ⟨r, rfl⟩

/-! ### Reserved words -/

theorem exists_decode_eq_error {w : Word} (h : ∀ r ∈ rows, r.hits w = false) : ∃ why, decode w = .error why := by
  cases hd : decode w with
  | error why => exact ⟨why, rfl⟩
  | ok i =>
    obtain ⟨hmem, hhits⟩ := (decodeAcceptsTheTable w).1 i hd
    exact absurd hhits (Bool.eq_false_iff.mp (h _ hmem))

theorem withCommand_of_reserved {word : Word} {s : State} {why : Reject} (hi : s.seq = .idle)
    (hd : decode word = .error why) (k : Instr → Answer) : withCommand word s k = .refused (.reservedWord why) := by
  simp [withCommand, busy_eq_false.mpr hi, hd]

theorem step_command {s : State} {word : Word} {rest : List Input} (h : s.inputs = .command word :: rest) :
    step s = andThen (fun t => t.enterWait.pollStatus)
      (withCommand word { s with inputs := rest } fun i => exec i { s with inputs := rest }) := by
  simp only [step, h]

/-- Settles O6: the word does not decode, and both ways of issuing it decode it first. -/
theorem reservedWordRefused : Obligations.ReservedWordRefused := by
  intro s word rest hi hrows
  obtain ⟨why, hd⟩ := exists_decode_eq_error hrows
  refine ⟨fun hin => ⟨why, ?_⟩, why, withCommand_of_reserved hi hd _⟩
  rw [step_command hin, withCommand_of_reserved (s := { s with inputs := rest }) hi hd]
  rfl

/-! ### The name of each refusal in Idle -/

section
variable {s : State} (hi : s.seq = .idle)
include hi

theorem whenFresh_of_constructed (hc : s.constructed = true) (mode : Bool) (k : Answer) :
    whenFresh s mode k = .refused .alreadyConstructed := by
  simp [whenFresh, busy_eq_false.mpr hi, hc]

theorem whenFresh_of_mode_false (hc : s.constructed = false) (k : Answer) :
    whenFresh s false k = .refused .modeFalse := by
  simp [whenFresh, busy_eq_false.mpr hi, hc]

theorem whenReady_of_not_constructed (hc : s.constructed = false) (k : Answer) :
    whenReady s k = .refused .notConstructed := by
  simp [whenReady, busy_eq_false.mpr hi, hc]

theorem whenReady_of_constructed (hc : s.constructed = true) (k : Answer) : whenReady s k = k := by
  simp [whenReady, busy_eq_false.mpr hi, hc]

end

theorem whenConfigured_of_not_configured {s : State} (hr : s.rxConfigured = false) (k : Answer) :
    whenConfigured s k = .refused .rxNotConfigured := by
  simp [whenConfigured, hr]

theorem whenConfigured_of_configured {s : State} (hr : s.rxConfigured = true) (k : Answer) : whenConfigured s k = k := by
  simp [whenConfigured, hr]

theorem whenFrame_of_too_long {len : Byte} (hl : 8 < len.toNat) (k : Answer) :
    whenFrame len k = .refused .payloadTooLong := by
  have hp : payloadOk len = false := by
    rw [Bool.eq_false_iff, ne_eq, payloadOk_eq_true]
    omega
  simp [whenFrame, hp]

/-- Settles O9: of the preconditions of a command, in their order (log entry 12), the first that is broken names the
refusal. -/
theorem refusalsAreNamed : Obligations.RefusalsAreNamed := by
  intro s mode id len hi
  refine ⟨fun hc => ?_, fun hc => ?_, fun hc hr => ?_, fun hc hl => ?_⟩
  · have hm := fun k => congrArg complete (whenFresh_of_mode_false hi hc k)
    have hn := fun k => congrArg complete (whenReady_of_not_constructed hi hc k)
    exact ⟨hm _, hm _, hn _, hn _, hn _, hn _, hn _, hn _, hn _⟩
  · have ha := fun k => congrArg complete (whenFresh_of_constructed hi hc mode k)
    exact ⟨ha _, ha _⟩
  · have hn := fun k => congrArg complete ((whenReady_of_constructed hi hc _).trans (whenConfigured_of_not_configured hr k))
    exact ⟨hn _, hn _⟩
  · have hf := fun k => congrArg complete ((whenReady_of_constructed hi hc _).trans (whenFrame_of_too_long hl k))
    refine ⟨hf _, hf _, fun hr => ?_⟩
    have hread : acceptRead len s = .refused .payloadTooLong := by
      rw [acceptRead, whenReady_of_constructed hi hc, whenConfigured_of_configured hr, whenFrame_of_too_long hl]
    exact congrArg complete hread

end Sys2Proof.Machine
end

section
/-! The host's WAIT (R37, R45, R64; decision D24; log entry 28): what a step is on each kind of input, and that a command
line is a write of CMD and a WAIT. -/

namespace Sys2Proof.Machine

/-! ### One read of STATUS -/

/-- `s` with another last read of the host and another place of it in a WAIT. -/
def State.withHost (s : State) (v : Word) (w : Bool) : State := { s with rdata := v, inWait := w }

/-- `s` once a host in its WAIT has read STATUS (R64). -/
def State.polled (s : State) : State := s.withHost s.statusWord s.busy

theorem State.pollStatus_of_inWait {s : State} (h : s.inWait = true) : s.pollStatus = s.polled := by
  rw [State.pollStatus_eq, if_pos h]
  rfl

theorem State.pollStatus_enterWait (s : State) : s.enterWait.pollStatus = s.polled := State.pollStatus_of_inWait rfl

/-! ### One equation per kind of input -/

theorem step_no_input {s : State} (h : s.inputs = []) : step s = .next (advance s).pollStatus := by
  simp only [step, h]

theorem step_other {s u : State} {x : Stimulus} {rest : List Input} (h : s.inputs = .other x :: rest)
    (hu : deliver x { s with inputs := rest } = .next u) : step s = .next u.pollStatus := by
  simp only [step, h, hu, andThen]

/-- The begin of a WAIT reads STATUS at once (log entry 28). -/
theorem step_wait {s : State} {rest : List Input} (h : s.inputs = .other .wait :: rest) :
    step s = .next ({ s with inputs := rest } : State).polled :=
  (step_other h rfl).trans (congrArg _ (State.pollStatus_enterWait _))

/-- BUSY is looked at before the command line's word is decoded, and again by the command: to the same effect. -/
theorem withCommand_exec {word : Word} {i : Instr} (s : State) (hd : decode word = .ok i) :
    withCommand word s (fun i => exec i s) = exec i s := by
  by_cases hi : s.seq = .idle
  · simp [withCommand, busy_eq_false.mpr hi, hd]
  · have hb : s.busy = true := bne_iff_ne.mpr hi
    simp [withCommand, hb, (busyBlockRefusesCommands s hi).1 i]

theorem step_command_ok {s : State} {word : Word} {rest : List Input} {i : Instr} (h : s.inputs = .command word :: rest)
    (hd : decode word = .ok i) : step s = andThen State.polled (exec i { s with inputs := rest }) := by
  rw [step_command h, withCommand_exec _ hd]
  rfl

/-- Settles O5: a command line is `exec` and a read of STATUS (`step_command_ok`), no input is a move of the block. -/
theorem stepRunsDecodedCommand : Obligations.StepRunsDecodedCommand := by
  refine ⟨fun s word rest i hin hd => ⟨fun t ht => ?_, fun r hr => ?_⟩, fun s hin hw => ?_, fun s hin hw => ?_⟩
  · rw [step_command_ok hin hd, ht]
    rfl
  · rw [step_command_ok hin hd, hr]
    rfl
  · exact ⟨(advance_inWait s).trans hw, step_eq_advance hin hw⟩
  · rw [step_no_input hin, State.pollStatus_of_inWait ((advance_inWait s).trans hw)]
    rfl

theorem hostRead_inWait (num : BitVec 10) (s : State) : (hostRead num s).inWait = s.inWait := by
  unfold hostRead
  split <;> rfl

theorem State.accepted_inWait (s : State) (i : Instr) : (s.accepted i).inWait = s.inWait := by
  cases i <;> rfl

theorem hostWrite_inWait {num : BitVec 10} {v : Word} {s t : State} (h : hostWrite num v s = .next t) :
    t.inWait = s.inWait := by
  obtain ⟨i, hi⟩ | ⟨-, -, rfl⟩ | rfl := hostWrite_next h
  · obtain ⟨-, -, rfl⟩ := acceptInstr_eq_next_iff.mp hi
    exact s.accepted_inWait i
  · rfl
  · rfl

/-- Settles O59: the read of STATUS follows the act, and a read or a write of the host leaves its WAIT first. -/
theorem waitReadsStatus : Obligations.WaitReadsStatus := by
  refine ⟨fun s t x rest hin ht => ⟨fun hw => ?_, fun hw => ?_⟩, fun s => rfl, fun s t num h => ?_, fun s t num v h => ?_⟩
  · rw [step_other hin ht, State.pollStatus_of_inWait hw]
    rfl
  · rw [step_other hin ht, State.pollStatus_of_inWait_eq_false hw]
  · cases h
    exact hostRead_inWait num s.leaveWait
  · exact hostWrite_inWait h

/-! ### A rule in progress comes to rest at its return -/

/-- `s` is at rest for good, or in a rule that is sound from some state of the override on. -/
structure State.RuleSound (s : State) : Prop where
  rest : s.seq = .idle → s.plan = .stop ∧ s.timer = 0#16
  plan : ∃ o, s.plan.ok o = true

/-- In a sound rule only the return brings the sequencer to rest, and nothing follows it. -/
theorem Plan.ok_act {a : Act} {k : Plan} {o : TxOvr} (h : (Plan.act a k).ok o = true) :
    (a.staysInCommand ∨ (∃ r, a = .ret r) ∧ k = .stop) ∧ ∃ o', k.ok o' = true := by
  cases a <;> simp only [Plan.ok, Bool.and_eq_true, beq_iff_eq, bne_iff_ne] at h
  case ret r => exact ⟨.inr ⟨⟨r, rfl⟩, h.1⟩, o, h.2⟩
  case goto q => exact ⟨.inl h.1.1, o, h.2⟩
  case txOverride v => exact ⟨.inl trivial, v, h.2⟩
  all_goals exact ⟨.inl trivial, o, h.2⟩

theorem State.ruleSound_accepted (s : State) (i : Instr) : (s.accepted i).RuleSound where
  rest h := absurd h (firstOf_ne_idle i)
  plan := ⟨.release, planOf_ok _ i⟩

theorem State.RuleSound.perform {s : State} {a : Act} {k : Plan} (h : s.RuleSound) (ht : s.timer = 0#16)
    (hp : s.plan = .act a k) : ({ a.perform s with plan := k } : State).RuleSound := by
  have hseq : s.seq ≠ .idle := fun hi => Plan.act_ne_stop a k (hp.symm.trans (h.rest hi).1)
  obtain ⟨o, ho⟩ := h.plan
  obtain ⟨ha, hk⟩ := Plan.ok_act (hp ▸ ho)
  refine ⟨fun hi => ?_, hk⟩
  obtain ha | ⟨⟨r, rfl⟩, rfl⟩ := ha
  · exact absurd hi (Act.seq_perform_ne_idle ha hseq)
  · exact ⟨rfl, ht⟩

/-- In a command the clause about rest says nothing. -/
theorem State.RuleSound.of_in_command {s : State} (hs : s.seq ≠ .idle) {o : TxOvr} (ho : s.plan.ok o = true) :
    s.RuleSound := ⟨fun hi => absurd hi hs, o, ho⟩

theorem State.RuleSound.advance {s : State} (h : s.RuleSound) : (advance s).RuleSound := by
  obtain ⟨o, ho⟩ := h.plan
  refine advance_cases s (tick := fun ht => ⟨fun hi => absurd (h.rest hi).2 ht, h.plan⟩) (stay := h)
    (act := fun a k ht hp => h.perform ht hp) (poll := fun e a b p hp hk => ?_) (take := fun d k b q hp => ?_)
    (judge := fun b g p hp hk => ?_)
  · rw [hp] at ho
    simp only [Plan.ok, Bool.and_eq_true] at ho
    obtain ⟨⟨-, he⟩, ha⟩ := ho
    exact .of_in_command (by cases b <;> exact nofun) (o := o) (by rcases hk with rfl | rfl <;> assumption)
  · have hseq : s.seq ≠ .idle := fun hi => nomatch hp.symm.trans (h.rest hi).1
    rw [hp] at ho
    simp only [Plan.ok, Bool.and_eq_true] at ho
    exact .of_in_command (by simpa using hseq) ho.2
  · rw [hp] at ho
    simp only [Plan.ok, Bool.and_eq_true] at ho
    obtain ⟨⟨-, hb⟩, hg⟩ := ho
    refine .of_in_command ?_ (o := o) (by rcases hk with rfl | rfl <;> assumption)
    simp only [State.verdict_seq]
    split <;> exact nofun

/-! ### A WAIT over the moves of the block -/

theorem Act.perform_withHost (a : Act) (s : State) (v : Word) (w : Bool) :
    a.perform (s.withHost v w) = (a.perform s).withHost v w := by
  cases a <;> rfl

theorem State.takeByte_withHost (s : State) (d : RxDest) (b : Byte) (q : List Byte) (v : Word) (w : Bool) :
    (s.withHost v w).takeByte d b q = (s.takeByte d b q).withHost v w := by
  cases d <;> rfl

/-- What the host last read and whether it is in a WAIT do not matter to a move. -/
theorem advance_withHost (s : State) (v : Word) (w : Bool) :
    advance (s.withHost v w) = (advance s).withHost v w := by
  by_cases ht : s.timer = 0#16
  · have ht' : (s.withHost v w).timer = 0#16 := ht
    cases hp : s.plan with
    | stop => rw [advance_stop ht hp, advance_stop ht' hp]
    | act a k => rw [advance_act ht hp, advance_act ht' hp, Act.perform_withHost]; rfl
    | poll e a => rw [advance_poll ht hp, advance_poll ht' hp]; rfl
    | take d k =>
      cases hq : s.rxQueue with
      | nil => rw [advance_take_nil ht hp hq, advance_take_nil ht' hp hq]
      | cons b q => rw [advance_take_cons ht hp hq, advance_take_cons ht' hp hq, State.takeByte_withHost]; rfl
    | judge b g => rw [advance_judge ht hp, advance_judge ht' hp]; rfl
  · rw [advance_of_timer_ne ht, advance_of_timer_ne (s := s.withHost v w) ht]
    rfl

/-- While a rule is in progress, and at rest, a step of a host in its WAIT is a move of the block and a read. -/
theorem step_polled {s : State} (h : s.RuleSound) (hin : s.inputs = []) :
    step s.polled = .next (advance s).polled := by
  rw [step_no_input (s := s.polled) hin, State.polled, advance_withHost]
  cases hb : s.busy with
  | true => exact congrArg _ (State.pollStatus_of_inWait rfl)
  | false =>
    obtain ⟨hp, ht⟩ := h.rest (busy_eq_false.mp hb)
    rw [advance_stop ht hp, State.polled, hb]
    rfl

theorem run_core_polled (n : Nat) :
    ∀ s : State, s.RuleSound → s.inputs = [] → Host.Core.run core n s.polled = .next (advance^[n] s).polled := by
  induction n with
  | zero => exact fun _ _ _ => rfl
  | succ n ih =>
    intro s h hin
    rw [run_core_succ n (step_polled h hin), Function.iterate_succ_apply]
    exact ih (advance s) h.advance (by simpa using hin)

theorem hostWrite_cmd_of_allowed {word : Word} {i : Instr} {s : State} (hi : s.seq = .idle) (ha : allowed s i = true)
    (hd : decode word = .ok i) : hostWrite 0x000#10 word s = .next (s.accepted i) := by
  simp [hostWrite, withCommand, busy_eq_false.mpr hi, hd, acceptInstr_of_allowed hi ha]

/-- The write of CMD and the begin of the WAIT: two steps to the accepted command, STATUS read once. -/
theorem run_core_write_cmd_wait {word : Word} {i : Instr} {s : State} (hin : s.inputs = []) (hi : s.seq = .idle)
    (ha : allowed s i = true) (hd : decode word = .ok i) (n : Nat) :
    Host.Core.run core (n + 2) { s with inputs := [.other (.write 0x000#10 word), .other .wait] } =
      Host.Core.run core n (s.accepted i).polled := by
  have hal : allowed ({ s with inputs := [.other .wait] } : State).leaveWait i = true := by cases i <;> exact ha
  have hwrite : step { s with inputs := [.other (.write 0x000#10 word), .other .wait] } = .next _ :=
    step_other rfl (hostWrite_cmd_of_allowed hi hal hd)
  have hacc : (({ s with inputs := [.other .wait] } : State).leaveWait.accepted i).pollStatus =
      { (s.accepted i).leaveWait with inputs := [.other .wait] } := by cases i <;> rfl
  have hinputs : ({ s.accepted i with inputs := [] } : State) = s.accepted i := by rw [← hin]; cases i <;> rfl
  have hwait : step { (s.accepted i).leaveWait with inputs := [.other .wait] } = .next (s.accepted i).polled := by
    rw [step_wait rfl, ← hinputs]
    rfl
  rw [run_core_succ _ hwrite, hacc, run_core_succ _ hwait]

/-- Settles O58: after the write of CMD and the begin of the WAIT the steps are the moves of the command's run, each with
a read of STATUS, and once the command has returned nothing changes any more. -/
theorem commandLineIsWriteAndWait : Obligations.CommandLineIsWriteAndWait := by
  intro word s t hin hst
  obtain ⟨h, -⟩ | ⟨word', rest, i, u, h, hd, hu, rfl⟩ | ⟨x, rest, u, h, -⟩ := step_next hst <;> rw [hin] at h
  · cases h
  · cases h
    rw [State.pollStatus_enterWait]
    refine ⟨rfl, bne_iff_ne, ?_⟩
    obtain ⟨a, n, ha, rfl⟩ := exec_next_iterate hu
    obtain ⟨hi, hal, rfl⟩ := acceptInstr_eq_next_iff.mp ha
    have hrun := run_core_polled n _ (State.ruleSound_accepted { s with inputs := [] } i) (State.accepted_inputs _ i)
    exact ⟨n + 2, (run_core_write_cmd_wait rfl hi hal hd n).trans hrun⟩
  · cases h

end Sys2Proof.Machine
end

section
/-! What the writes hand over (R30 b, R51, R95, R96, R97): the TX stream grows by the bytes named in the rule, since no
action of a write changes what a source stands for. -/

namespace Sys2Proof.Machine

/-- The byte an action hands to the transport, if it hands one over. -/
def Act.sends (s : State) (a : Act) : Option Byte := (a.event s).bind Event.sent

@[simp] theorem Act.sends_txByte (s : State) (src : TxSource) : Act.sends s (.txByte src) = some (s.source src) := rfl

@[simp] theorem Act.sends_ctrlLine (s : State) (m : PowerMode) : Act.sends s (.ctrlLine m) = none := rfl

@[simp] theorem Act.sends_txOverride (s : State) (v : TxOvr) : Act.sends s (.txOverride v) = none := rfl

@[simp] theorem Act.sends_delay (s : State) (t : BitVec 16) : Act.sends s (.delay t) = none := rfl

@[simp] theorem Act.sends_goto (s : State) (q : Seq) : Act.sends s (.goto q) = none := rfl

@[simp] theorem Act.sends_ret (s : State) (r : Option Result) : Act.sends s (.ret r) = none := rfl

theorem txStream_toList (o : Option Event) : txStream o.toList = (o.bind Event.sent).toList := by
  cases o with
  | none => rfl
  | some e => cases e <;> rfl

theorem txStream_append (t u : List Event) : txStream (t ++ u) = txStream t ++ txStream u := List.filterMap_append

theorem txStream_perform (a : Act) (s : State) :
    txStream (a.perform s).trace = txStream s.trace ++ (a.sends s).toList := by
  rw [Act.trace_perform, txStream_append, txStream_toList, Act.sends]

/-- What an action hands over is read from the operand latches and the buffers. -/
theorem Act.sends_congr {s u : State} (hid : u.opId = s.opId) (hlen : u.opLen = s.opLen) (hmem : u.mem = s.mem) :
    Act.sends u = Act.sends s := by
  funext a
  cases a with
  | txByte src =>
    cases src <;> simp only [sends_txByte, State.source, State.payload, State.txbuf, hid, hlen, hmem]
  | _ => rfl

/-- An action of a write leaves the operand latches and the buffers, so what the others hand over is the same. -/
theorem Act.sends_perform {a : Act} (ha : a.ofWrite) (s : State) : Act.sends (a.perform s) = Act.sends s := by
  cases a with
  | xportConfig | markConfigured | markConstructed | copyPayload | spoilPayload => exact ha.elim
  | ctrlLine | txOverride | delay | txByte | goto | ret => exact Act.sends_congr rfl rfl rfl

theorem txStream_run_after {acts : List Act} (h : ∀ a ∈ acts, a.ofWrite) (s : State) :
    txStream ((Plan.after acts .stop).run s).trace = txStream s.trace ++ acts.filterMap (Act.sends s) := by
  induction acts generalizing s with
  | nil => exact (List.append_nil _).symm
  | cons a acts ih =>
    obtain ⟨ha, hacts⟩ := List.forall_mem_cons.mp h
    have helapse : Act.sends s.elapse = Act.sends s := Act.sends_congr rfl rfl rfl
    rw [Plan.after_cons, Plan.run_act, ih hacts, txStream_perform, Act.sends_perform ha, helapse, State.elapse_trace,
      List.append_assoc]
    cases hs : a.sends s <;> simp [hs]

/-! ### The bytes of the parts of a rule -/

@[simp] theorem filterMap_sends_enterNormal (s : State) (pwr : Bool) :
    (enterNormal pwr).filterMap (Act.sends s) = [] := by
  cases pwr <;> rfl

@[simp] theorem filterMap_sends_emitBreak (s : State) : emitBreak.filterMap (Act.sends s) = [] := rfl

@[simp] theorem filterMap_sends_sendPayload (s : State) (n : Nat) :
    (sendPayload n).filterMap (Act.sends s) = s.payload n := by
  simp [sendPayload, List.filterMap_map, Function.comp_def, State.payload, State.source]

/-- The actions of `closing`. -/
def closingActs (pwr : Bool) (r : Result) : List Act :=
  Act.goto .powerDown :: (enterSleep pwr ++ [Act.ret (some r)])

theorem closing_eq_after (pwr : Bool) (r : Result) : closing pwr r = Plan.after (closingActs pwr r) .stop := rfl

theorem closingActs_ofWrite (pwr : Bool) (r : Result) : ∀ a ∈ closingActs pwr r, a.ofWrite := by
  cases pwr <;> simp [closingActs, enterSleep, Act.ofWrite]

@[simp] theorem filterMap_sends_closingActs (s : State) (pwr : Bool) (r : Result) :
    (closingActs pwr r).filterMap (Act.sends s) = [] := by
  cases pwr <;> rfl

/-- The end of a write hands over nothing. -/
theorem txStream_run_closing {acts : List Act} (h : ∀ a ∈ acts, a.ofWrite) (s : State) (pwr : Bool) (r : Result) :
    txStream ((Plan.after acts (closing pwr r)).run s).trace = txStream s.trace ++ acts.filterMap (Act.sends s) := by
  rw [closing_eq_after, ← Plan.after_append,
    txStream_run_after (List.forall_mem_append.mpr ⟨h, closingActs_ofWrite pwr r⟩), List.filterMap_append,
    filterMap_sends_closingActs, List.append_nil]

/-! ### The three writes of a frame -/

@[simp] theorem State.accepted_payload (s : State) (i : Instr) (n : Nat) : (s.accepted i).payload n = s.payload n := by
  cases i <;> rfl

@[simp] theorem State.accepted_trace (s : State) (i : Instr) : (s.accepted i).trace = s.trace := identified_trace s i

@[simp] theorem State.accepted_opId (s : State) (i : Instr) : (s.accepted i).opId = idLatch i := rfl

@[simp] theorem State.accepted_opLen (s : State) (i : Instr) : (s.accepted i).opLen = lenLatch i := rfl

/-- A WRITE_REQ hands over the sync byte and the identifier (R96). -/
theorem txStream_of_exec_writeReq {s t : State} {id : Byte} (h : exec (.writeReq id) s = .next t) :
    txStream t.trace = txStream s.trace ++ [Config.sync, id] := by
  obtain ⟨-, -, rfl⟩ := exec_next_accepted h
  have hw := planOf_isWrite_all (.inr (.inl ⟨id, rfl⟩)) s.pwrCtrlEn
  rw [planOf, planWriteReq] at hw ⊢
  rw [txStream_run_closing (Plan.all_after.mp hw).1]
  simp [List.filterMap_cons, State.source, idLatch]

/-- A WRITE_RESP hands over the payload and its checksum (R97). -/
theorem txStream_of_exec_writeResp {s t : State} {len : Byte} (h : exec (.writeResp len) s = .next t) :
    txStream t.trace = txStream s.trace ++ s.payload len.toNat ++ [cks (s.payload len.toNat)] := by
  obtain ⟨-, -, rfl⟩ := exec_next_accepted h
  have hw := planOf_isWrite_all (.inr (.inr (.inl ⟨len, rfl⟩))) s.pwrCtrlEn
  rw [planOf, planWriteResp] at hw ⊢
  rw [txStream_run_closing (Plan.all_after.mp hw).1]
  simp [List.filterMap_cons, State.source, lenLatch]

/-- A WRITE hands over both, in this order (R95). -/
theorem txStream_of_exec_write {s t : State} {id len : Byte} (h : exec (.write id len) s = .next t) :
    txStream t.trace =
      txStream s.trace ++ [Config.sync, id] ++ s.payload len.toNat ++ [cks (s.payload len.toNat)] := by
  obtain ⟨-, -, rfl⟩ := exec_next_accepted h
  have hw := planOf_isWrite_all (.inl ⟨id, len, rfl⟩) s.pwrCtrlEn
  rw [planOf, planWrite] at hw ⊢
  rw [txStream_run_closing (Plan.all_after.mp hw).1]
  simp [List.filterMap_cons, State.source, idLatch, lenLatch]

/-- Settles O40: the bytes of the request and of the response are those of the write, the payload being the same since
the request leaves TXBUF (`writesFrame`). -/
theorem requestAndResponseMakeAFrame : Obligations.RequestAndResponseMakeAFrame := by
  intro s t₁ t₂ t id len h₁ h₂ h
  obtain ⟨hmem, -⟩ := writesFrame _ _ _ (.inr (.inl ⟨id, rfl⟩)) h₁
  have hpayload : t₁.payload len.toNat = s.payload len.toNat := by
    simp only [State.payload, State.txbuf, hmem]
  rw [txStream_of_exec_writeResp h₂, txStream_of_exec_writeReq h₁, txStream_of_exec_write h, hpayload]

end Sys2Proof.Machine
end

section
/-! The timing calculator, the power controller and the break-signal timer (R70, R72, R74, R75): the durations as
numbers, and each internal operation run whole, before any rule. -/

namespace Sys2Proof.Machine

/-! ### Durations -/

/-- The width of the result holds the product for every 8-bit count (decision D25). -/
theorem toNat_breakDuration (bits : Byte) : (breakDuration bits).toNat = bits.toNat * 96 := by
  have hbits := bits.isLt
  have hperiod : Config.bitPeriod.toNat = 96 := rfl
  rw [breakDuration, bitTimes, BitVec.toNat_ofNat, hperiod]
  omega

/-- Settles O29: every clause follows from the exact product (`toNat_breakDuration`). -/
theorem breakDurationExact : Obligations.BreakDurationExact := by
  refine ⟨toNat_breakDuration, fun a b hab => ?_, fun bits => ?_, rfl⟩
  · rw [toNat_breakDuration, toNat_breakDuration, toNat_breakDuration, BitVec.toNat_add_of_lt hab, Nat.add_mul]
  · have hbits := bits.isLt
    rw [toNat_breakDuration]
    omega

/-- The dominant hold of the break (R72). -/
theorem breakDuration_breakBits : breakDuration Config.breakBits = 1248#16 := rfl

/-- The recessive delimiter after it (R72). -/
theorem bitTimes_breakDelimBits : bitTimes Config.breakDelimBits = 96#16 := rfl

/-! ### The internal operations -/

/-- What follows straight actions lets the timer run out first (R22). -/
theorem Plan.run_after_elapse (acts : List Act) (k : Plan) (s : State) :
    (Plan.after acts k).run s = k.run (runActs acts s).elapse := by
  rw [Plan.run_after, Plan.run_elapse]

/-- The control line driven to `m` and its settle delay (R74, R75). -/
theorem Plan.run_settle (m : PowerMode) (k : Plan) (s : State) :
    (Plan.after [.ctrlLine m, .delay settleTime] k).run s =
      k.run { s with
        ctrl := m, xcvr := m, timer := 0#16, txPending := s.pendingAt m,
        trace := s.trace ++ [.ctrlLine m, .delay settleTime] } := by
  rw [Plan.run_after_elapse, List.append_cons]
  rfl

/-- The break: dominant, recessive, released (R72). -/
theorem Plan.run_emitBreak (k : Plan) (s : State) :
    (Plan.after emitBreak k).run s =
      k.run { s with txovr := .release, timer := 0#16, trace := s.trace ++ Spec.breakTrace } := by
  rw [Plan.run_after_elapse]
  simp [emitBreak, Act.perform, State.driveOverride, State.startDelay, State.emit, State.elapse, Spec.breakTrace,
    breakDuration_breakBits, bitTimes_breakDelimBits]

theorem State.pendingAt_normal (s : State) : s.pendingAt .normal = s.txPending := rfl

theorem State.pendingAt_sleep (s : State) : s.pendingAt .sleep = if s.txDrain then [] else s.txPending := by
  simp [State.pendingAt]

/-- Settles O30: the two power operations are `Plan.run_settle`, or nothing when disabled; the break is
`Plan.run_emitBreak`. -/
theorem powerAndBreakOperations : Obligations.PowerAndBreakOperations := by
  intro s k
  refine ⟨?_, ?_, rfl, rfl, Plan.run_emitBreak k s⟩
  · exact Plan.run_settle .normal k s
  · rw [← State.pendingAt_sleep]
    exact Plan.run_settle .sleep k s

end Sys2Proof.Machine
end

section
/-! The timing of a command's events (R78): every rule is made of settled moves of the control line, whole breaks, and
actions that drive neither line, and each of these keeps the check `timed` of the events that follow it. -/

namespace Sys2Proof.Machine

/-! ### The shape of a rule -/

/-- The action drives neither the control line nor the override. -/
def Act.drivesNoLine : Act → Prop
  | .ctrlLine _ | .txOverride _ => False
  | .delay _ | .txByte _ | .xportConfig | .markConfigured | .markConstructed | .goto _ | .copyPayload | .spoilPayload
  | .ret _ => True

/-- On every way through the rule the control line moves with its settle delay, and the override as a whole break. -/
inductive Plan.Timed : Plan → Prop
  | stop : Timed .stop
  | settle (m : PowerMode) {k : Plan} (hk : Timed k) : Timed (Plan.after [.ctrlLine m, .delay settleTime] k)
  | emitBreak {k : Plan} (hk : Timed k) : Timed (Plan.after emitBreak k)
  | act {a : Act} {k : Plan} (ha : a.drivesNoLine) (hk : Timed k) : Timed (.act a k)
  | poll {e a : Plan} (he : Timed e) (ha : Timed a) : Timed (.poll e a)
  | take {d : RxDest} {k : Plan} (hk : Timed k) : Timed (.take d k)
  | judge {b g : Plan} (hb : Timed b) (hg : Timed g) : Timed (.judge b g)

theorem Plan.Timed.after {k : Plan} {acts : List Act} (hk : k.Timed) (h : ∀ a ∈ acts, a.drivesNoLine) :
    (Plan.after acts k).Timed := by
  induction acts with
  | nil => exact hk
  | cons a acts ih =>
    obtain ⟨ha, hacts⟩ := List.forall_mem_cons.mp h
    exact .act ha (ih hacts)

theorem Plan.Timed.enterNormal {k : Plan} {pwr : Bool} (hk : k.Timed) : (Plan.after (enterNormal pwr) k).Timed := by
  cases pwr with
  | true => exact .settle .normal hk
  | false => exact hk

theorem Plan.Timed.enterSleep {k : Plan} {pwr : Bool} (hk : k.Timed) : (Plan.after (enterSleep pwr) k).Timed := by
  cases pwr with
  | true => exact .settle .sleep hk
  | false => exact hk

theorem Plan.Timed.sendPayload {k : Plan} {n : Nat} (hk : k.Timed) : (Plan.after (sendPayload n) k).Timed :=
  hk.after fun a ha => by
    obtain ⟨i, -, rfl⟩ := List.mem_map.mp ha
    trivial

theorem Plan.Timed.taking {k : Plan} {ds : List RxDest} (hk : k.Timed) : (Plan.taking ds k).Timed := by
  induction ds with
  | nil => exact hk
  | cons d ds ih => exact .take ih

theorem closing_timed (pwr : Bool) (r : Result) : (closing pwr r).Timed := by
  rw [closing, List.cons_append, Plan.after_cons, Plan.after_append]
  exact .act trivial (.enterSleep (.act trivial .stop))

/-- The nine rules have this shape. -/
theorem planOf_timed (pwr : Bool) (i : Instr) : (planOf pwr i).Timed := by
  have hclose := closing_timed pwr
  cases i <;>
    simp only [planOf, planConstructM, planConstructS, planCfgRx, planWrite, planWriteReq, planWriteResp,
      planWriteStream, planRead, planReadStream, Plan.after_append, Plan.after_cons, Plan.after_nil]
  case constructM | cfgRx => exact .act trivial (.act trivial (.act trivial .stop))
  case constructS => exact .act trivial (.act trivial (.enterNormal (.act trivial (.act trivial .stop))))
  case write =>
    refine .enterNormal (.act trivial (.emitBreak ?_))
    exact .act trivial (.act trivial (.act trivial (.sendPayload (.act trivial (hclose _)))))
  case writeReq =>
    refine .enterNormal (.act trivial (.emitBreak ?_))
    exact .act trivial (.act trivial (.act trivial (hclose _)))
  case writeResp => exact .enterNormal (.act trivial (.sendPayload (.act trivial (hclose _))))
  case writeStream => exact .enterNormal (.act trivial (.emitBreak (.act trivial (.sendPayload (hclose _)))))
  case read =>
    refine .enterNormal (.act trivial (.poll (hclose _) (.taking ?_)))
    exact .judge (.act trivial (hclose _)) (.act trivial (hclose _))
  case readStream => exact .enterNormal (.act trivial (.poll (hclose _) (.taking (.act trivial (hclose _)))))

/-! ### The events of a rule -/

/-- The check of the events after `evs` decides the check of the whole. -/
def TimedBlock (evs : List Event) : Prop := ∀ rest, timed (evs ++ rest) = timed rest

theorem timedBlock_settle (m : PowerMode) : TimedBlock [.ctrlLine m, .delay settleTime] := fun _ => rfl

theorem timedBlock_breakTrace : TimedBlock Spec.breakTrace := fun _ => rfl

theorem Act.timedBlock_event {a : Act} (ha : a.drivesNoLine) (s : State) : TimedBlock (a.event s).toList := by
  cases a with
  | ctrlLine | txOverride => exact ha.elim
  | delay | txByte | xportConfig | markConfigured | markConstructed | goto | copyPayload | spoilPayload | ret =>
    exact fun _ => rfl

/-- The events from `s` to `t` keep the settle, break and delimiter times. -/
def AddsTimedEvents (s t : State) : Prop := ∃ evs, t.trace = s.trace ++ evs ∧ timed evs = true

theorem AddsTimedEvents.of_trace_eq {s t : State} (h : t.trace = s.trace) : AddsTimedEvents s t :=
  ⟨[], by simp [h], rfl⟩

theorem AddsTimedEvents.prepend {s u t : State} {evs : List Event} (h : AddsTimedEvents u t)
    (hu : u.trace = s.trace ++ evs) (hb : TimedBlock evs) : AddsTimedEvents s t := by
  obtain ⟨evs', ht, hevs'⟩ := h
  exact ⟨evs ++ evs', by rw [ht, hu, List.append_assoc], (hb evs').trans hevs'⟩

/-- A run of such a rule, to its end or to its wait for a byte, keeps the times. -/
theorem Plan.Timed.run {p : Plan} (h : p.Timed) : ∀ s : State, AddsTimedEvents s (p.run s) := by
  induction h with
  | stop => exact fun s => .of_trace_eq rfl
  | settle m _ ih =>
    intro s
    rw [Plan.run_settle]
    exact (ih _).prepend rfl (timedBlock_settle m)
  | emitBreak _ ih =>
    intro s
    rw [Plan.run_emitBreak]
    exact (ih _).prepend rfl timedBlock_breakTrace
  | @act a k ha _ ih =>
    intro s
    exact (ih (a.perform s.elapse)).prepend (a.trace_perform s.elapse) (a.timedBlock_event ha _)
  | poll _ _ ihe iha =>
    intro s
    rw [Plan.run]
    split
    · exact (ihe _).prepend (s.elapse.answerPoll_trace false) fun _ => rfl
    · exact (iha _).prepend (s.elapse.answerPoll_trace true) fun _ => rfl
  | @take d k _ ih =>
    intro s
    rw [Plan.run]
    split
    · exact .of_trace_eq rfl
    next b q _ => exact (ih _).prepend (s.elapse.trace_takeByte d b q) fun _ => rfl
  | judge _ _ ihb ihg =>
    intro s
    rw [Plan.run]
    split
    · exact ihg s.elapse.verdict
    · exact ihb s.elapse.verdict

/-- Settles O19: the nine rules have the shape that keeps the times (`planOf_timed`, `Plan.Timed.run`). -/
theorem commandsKeepTiming : Obligations.CommandsKeepTiming := by
  intro i s t h
  obtain ⟨-, -, rfl⟩ := exec_next_accepted h
  obtain ⟨evs, ht, hevs⟩ := (planOf_timed s.pwrCtrlEn i).run (s.accepted i)
  exact ⟨evs, by rw [ht, State.accepted_trace], hevs⟩

end Sys2Proof.Machine
end

section
/-! The static inputs PWR_CTRL_EN and TX_DRAIN_BEFORE_SLEEP (R5, R77; decisions D6, D19): no operation of the model
writes them, and so no step does. -/

namespace Sys2Proof.Machine

/-- PWR_CTRL_EN and TX_DRAIN_BEFORE_SLEEP. -/
def State.staticInputs (s : State) : Bool × Bool := (s.pwrCtrlEn, s.txDrain)

theorem Act.perform_staticInputs (a : Act) (s : State) : (a.perform s).staticInputs = s.staticInputs := by
  cases a <;> rfl

theorem State.takeByte_staticInputs (s : State) (d : RxDest) (b : Byte) (q : List Byte) :
    (s.takeByte d b q).staticInputs = s.staticInputs := by
  cases d <;> rfl

theorem advance_staticInputs (s : State) : (advance s).staticInputs = s.staticInputs :=
  advance_keeps (P := fun u => u.staticInputs = s.staticInputs)
    (hTick := fun _ h => h)
    (hA := fun a u h => (a.perform_staticInputs u).trans h)
    (hP := fun _ _ h => h)
    (hT := fun u d b q _ h => (u.takeByte_staticInputs d b q).trans h)
    (hV := fun _ h => h)
    (hPlan := fun _ _ h => h)
    s rfl

theorem acceptInstr_staticInputs {i : Instr} {s a : State} (h : acceptInstr i s = .next a) :
    a.staticInputs = s.staticInputs := by
  obtain ⟨-, -, rfl⟩ := acceptInstr_eq_next_iff.mp h
  cases i <;> rfl

theorem exec_staticInputs {i : Instr} {s t : State} (h : exec i s = .next t) : t.staticInputs = s.staticInputs :=
  exec_induction (P := fun u => u.staticInputs = s.staticInputs) h (fun _ ha => acceptInstr_staticInputs ha)
    fun u hu => (advance_staticInputs u).trans hu

theorem hostWrite_staticInputs {num : BitVec 10} {v : Word} {s t : State} (h : hostWrite num v s = .next t) :
    t.staticInputs = s.staticInputs := by
  obtain ⟨i, hi⟩ | ⟨-, -, rfl⟩ | rfl := hostWrite_next h
  · exact acceptInstr_staticInputs hi
  · rfl
  · rfl

theorem hostRead_staticInputs (num : BitVec 10) (s : State) : (hostRead num s).staticInputs = s.staticInputs := by
  unfold hostRead
  split <;> rfl

theorem State.pollStatus_staticInputs (s : State) : s.pollStatus.staticInputs = s.staticInputs :=
  State.pollStatus_keeps (P := fun u => u.staticInputs = s.staticInputs) (fun _ _ _ h => h) s rfl

/-- Reset is among the acts from outside, and it keeps the static inputs (R140; log entry 14). -/
theorem deliver_staticInputs {x : Stimulus} {s t : State} (h : deliver x s = .next t) :
    t.staticInputs = s.staticInputs := by
  cases x with
  | write num v => exact hostWrite_staticInputs (s := s.leaveWait) h
  | read num => cases h; exact hostRead_staticInputs num s.leaveWait
  | run => cases h; exact advance_staticInputs s
  | wait | arrive | rxBecomes | shift | reset => cases h; rfl

theorem step_staticInputs {s t : State} (h : step s = .next t) : t.staticInputs = s.staticInputs := by
  obtain ⟨-, rfl⟩ | ⟨_, rest, i, u, -, -, hu, rfl⟩ | ⟨x, rest, u, -, hu, rfl⟩ := step_next h
  · rw [State.pollStatus_staticInputs, advance_staticInputs]
  · exact u.enterWait.pollStatus_staticInputs.trans (exec_staticInputs (s := { s with inputs := rest }) (t := u) hu)
  · exact u.pollStatus_staticInputs.trans (deliver_staticInputs (s := { s with inputs := rest }) hu)

/-- Settles O15: the pair of the two inputs is the same after a step (`step_staticInputs`). -/
theorem staticInputsNeverChange : Obligations.StaticInputsNeverChange := fun _ _ h =>
  Prod.mk.inj (step_staticInputs h)

end Sys2Proof.Machine
end

section
/-! The checksum generator and the identifier filter (R85, R86, R87, R89): the checksum as a number, that it depends on
the sum mod 256 alone, and what the two checks say of a frame. -/

namespace Sys2Proof.Machine

/-! ### The sum of the bytes -/

@[simp] theorem sumBytes_nil : sumBytes [] = 0 := rfl

@[simp] theorem sumBytes_cons (b : Byte) (p : List Byte) : sumBytes (b :: p) = b.toNat + sumBytes p := List.sum_cons

@[simp] theorem sumBytes_append (p q : List Byte) : sumBytes (p ++ q) = sumBytes p + sumBytes q := by
  rw [sumBytes, List.map_append, List.sum_append]
  rfl

theorem sumBytes_perm {p q : List Byte} (h : p.Perm q) : sumBytes p = sumBytes q := (h.map _).sum_eq

/-- An 8-bit accumulator that wraps holds its first value plus the sum mod 256. -/
theorem foldl_add_eq (p : List Byte) : ∀ acc : Byte, p.foldl (· + ·) acc = acc + BitVec.ofNat 8 (sumBytes p) := by
  induction p with
  | nil => exact fun acc => (BitVec.add_zero acc).symm
  | cons b p ih =>
    intro acc
    rw [List.foldl_cons, ih, sumBytes_cons, BitVec.ofNat_add, BitVec.ofNat_toNat, BitVec.setWidth_eq, BitVec.add_assoc]

/-! ### The checksum -/

/-- The checksum is a remainder, so its byte loses nothing of the number (R85). -/
theorem toNat_cks (p : List Byte) : (cks p).toNat = 255 - (sumBytes p + 1) % 256 := by
  rw [cks, BitVec.toNat_ofNat]
  omega

theorem cks_eq_not (p : List Byte) : cks p = ~~~ BitVec.ofNat 8 (sumBytes p + 1) := by
  refine BitVec.eq_of_toNat_eq ?_
  rw [toNat_cks, BitVec.toNat_not, BitVec.toNat_ofNat]

/-- Only the sum mod 256 matters, and the byte that completes it to 254 is the checksum (R86 c, f). -/
theorem cks_eq_of_mod {p : List Byte} {b : Byte} (h : (sumBytes p + b.toNat) % 256 = 254) : cks p = b := by
  have hb := b.isLt
  refine BitVec.eq_of_toNat_eq ?_
  rw [toNat_cks]
  omega

theorem sumBytes_add_cks_mod (p : List Byte) : (sumBytes p + (cks p).toNat) % 256 = 254 := by
  rw [toNat_cks]
  omega

/-- A list whose sum is that of another has its checksum. -/
theorem cks_congr {p q : List Byte} (h : sumBytes p = sumBytes q) : cks p = cks q :=
  cks_eq_of_mod (by rw [h, sumBytes_add_cks_mod])

theorem cks_singleton (b : Byte) : cks [254#8 - b] = b := by
  refine cks_eq_of_mod ?_
  have hb := b.isLt
  rw [sumBytes_cons, sumBytes_nil, BitVec.toNat_sub, BitVec.toNat_ofNat]
  omega

/-- Settles O25: the formula is the checksum as a number (`toNat_cks`), and the byte 254 - b has the checksum b. -/
theorem checksumFormula : Obligations.ChecksumFormula := by
  refine ⟨toNat_cks, cks_eq_not, rfl, fun p (h : sumBytes p % 256 = 254) => ?_,
    fun p (h : sumBytes p % 256 = 255) => ?_, fun b => ⟨_, cks_singleton b⟩, rfl⟩
  · exact cks_eq_of_mod (by simpa using h)
  · refine cks_eq_of_mod ?_
    rw [BitVec.toNat_ofNat]
    omega

/-- Settles O26: every form is a fact about the sum mod 256. -/
theorem checksumLaws : Obligations.ChecksumLaws := by
  refine ⟨fun p => ?_, fun p => ?_, fun p => ?_, fun p q h => cks_congr (sumBytes_perm h),
    fun p => cks_congr (sumBytes_append p [0#8]), sumBytes_add_cks_mod⟩
  · have hmod := sumBytes_add_cks_mod p
    have hlt := (cks p).isLt
    change ((cks p).toNat : Int) = (255 - ((sumBytes p : Int) + 1)) % 256
    omega
  · have hmod := sumBytes_add_cks_mod p
    have hlt := (cks p).isLt
    change ((cks p).toNat : Int) = (254 - (sumBytes p : Int)) % 256
    omega
  · rw [cks_eq_not, foldl_add_eq, BitVec.zero_add, BitVec.ofNat_add]

/-! ### The two checks of a window -/

theorem windowPayload_frame (a b c : Byte) (p : List Byte) : windowPayload ([a, b] ++ p ++ [c]) p.length = p := by
  simp [windowPayload]

theorem getElem?_frame_trailing (a b c : Byte) (p : List Byte) : ([a, b] ++ p ++ [c])[p.length + 2]? = some c := by
  simp

theorem cksOK_frame_iff (a b c : Byte) (p : List Byte) :
    cksOK ([a, b] ++ p ++ [c]) p.length = true ↔ cks p = c := by
  rw [cksOK, windowPayload_frame, getElem?_frame_trailing, beq_iff_eq, Option.some_inj, eq_comm]

/-- Settles O27: the payload positions of the window hold `p`, and its trailing byte is `c`. -/
theorem windowChecksum : Obligations.WindowChecksum :=
  ⟨cksOK_frame_iff, fun a b c => (cksOK_frame_iff a b c []).trans eq_comm, rfl⟩

/-- Settles O28: two bytes are equal exactly if all their bits are. -/
theorem identifierMatch : Obligations.IdentifierMatch := by
  refine ⟨fun ident b => ?_, rfl, rfl, rfl⟩
  rw [idOK, beq_iff_eq]
  exact ⟨fun h k => by rw [h], fun h => BitVec.eq_of_getLsbD_eq fun k _ => h k⟩

end Sys2Proof.Machine
end

section
/-! READ with its window in the queue (R105), and the round trip (R88): what a WRITE hands over is a window that passes
both checks of a node with that identifier. -/

namespace Sys2Proof.Machine

/-! ### A READ that finds its window -/

/-- With `n + 3` bytes in the queue a framed read takes them all into WIN. -/
theorem Plan.run_taking_window {w q : List Byte} {n : Nat} (k : Plan) {s : State} (hq : s.rxQueue = w ++ q)
    (hlen : w.length = n + 3) :
    (Plan.taking (windowDests n) k).run s =
      k.run { s with rxQueue := q, win := s.win ++ w, trace := s.trace ++ Spec.takes w } := by
  have hdests : windowDests n = (w.map fun b => (RxDest.window, b)).map Prod.fst := by
    rw [windowDests, ← hlen]
    exact (windowDests_split w 0).trans (List.append_nil _)
  have hbytes : (w.map fun b => (RxDest.window, b)).map Prod.snd = w := by simp [Function.comp_def]
  rw [hdests, Plan.run_taking k _ q s (by rw [hbytes, hq]), State.takeAll_window w q s hq, Spec.takes]

/-- A READ of size `n` issued in `s`, at the verdict: it has taken the window `w` and left `q` in the queue (R105). -/
def State.windowTaken (s : State) (n : Byte) (w q : List Byte) : State :=
  { Spec.waiting s n s.plan w with win := w, rxQueue := q }

/-- The settle delay of the power controller as a number (R5, R74, R75). -/
theorem settleTime_eq : settleTime = 20#16 := rfl

/-- The transmit path after a command that handed over nothing (R41, R75). -/
theorem pendingAfter_nil (s : State) :
    Spec.pendingAfter s [] = if s.pwrCtrlEn then s.pendingAt .sleep else s.txPending := by
  rw [Spec.pendingAfter, State.pendingAt_sleep, List.append_nil]
  cases s.pwrCtrlEn <;> rfl

section
variable {s : State} {n : Byte} {w q : List Byte} (hs : ReadyToRead s) (hn : n.toNat ≤ 8) (hq : s.rxQueue = w ++ q)
  (hlen : w.length = n.toNat + 3)
include hs hn hq hlen

/-- Accepted with data in the queue, the READ comes to the verdict on its window. -/
theorem exec_read_of_window :
    exec (.read n) s = .next
      ((Plan.judge (.act .spoilPayload (closing s.pwrCtrlEn .validationFailed))
        (.act .copyPayload (closing s.pwrCtrlEn .success))).run (s.windowTaken n w q)) := by
  obtain ⟨⟨hi, hc⟩, hr⟩ := hs
  have hallowed : allowed s (.read n) = true := by simp [allowed, hc, hr, payloadOk_eq_true.mpr hn]
  have hne : s.rxQueue ≠ [] := by
    rw [hq]
    exact List.append_ne_nil_of_left_ne_nil (List.ne_nil_of_length_eq_add_one hlen) q
  rw [exec_of_allowed hi hallowed]
  refine congrArg _ ((run_to_reading s n _ _ _ hne).trans ?_)
  exact Plan.run_taking_window _ hq hlen

/-- A window that passes both checks: Success, and the payload positions go to RXBUF (R44, R105). -/
theorem exec_read_of_passes (hw : Spec.Passes s.ident w n.toNat) :
    exec (.read n) s = .next { Spec.returned s 0#8 n .success (.rxAvail true :: Spec.takes w) [] with
      rxQueue := q, win := w, mem := Memory.writeBytes s.mem 0x200 (windowPayload w n.toNat) } := by
  have hok : (s.windowTaken n w q).windowOK = true := (State.windowOK_iff _).mpr hw
  rw [exec_read_of_window hs hn hq hlen, Plan.run, if_pos hok, Plan.run_act]
  let u := (s.windowTaken n w q).elapse.verdict.elapse.copyPayload
  have hpending : u.pendingAt .sleep = s.pendingAt .sleep := rfl
  refine congrArg _ ((closing_run u .success).trans ?_)
  rw [hpending]
  cases hp : s.pwrCtrlEn <;>
    simp [u, State.windowTaken, Spec.waiting, Spec.returned, pendingAfter_nil, Spec.upTrace, Spec.downTrace,
      settleTime_eq, hp]

end

/-! ### The round trip -/

@[simp] theorem State.length_payload (s : State) (n : Nat) : (s.payload n).length = n := by
  simp [State.payload]

/-- The payload operand holds TXBUF in index order (R57). -/
theorem State.getElem_payload (s : State) {n : Nat} {i : Byte} (h : i.toNat < (s.payload n).length) :
    (s.payload n)[i.toNat] = s.txbuf i := by
  simp [State.payload]

/-- A frame with its checksum passes both checks against the identifier it carries (R88). -/
theorem passes_frame (a ident : Byte) (p : List Byte) : Spec.Passes ident ([a, ident] ++ p ++ [cks p]) p.length := by
  refine ⟨rfl, ?_⟩
  rw [getElem?_frame_trailing, ← windowPayload, windowPayload_frame]

/-- A READ that hears the frame of `p` under its own identifier returns Success, `p` in RXBUF (R88, R105). -/
theorem exec_read_of_frame {s : State} {n : Byte} {p q : List Byte} (hs : ReadyToRead s) (hn : n.toNat ≤ 8)
    (hlen : p.length = n.toNat) (hq : s.rxQueue = [Config.sync, s.ident] ++ p ++ [cks p] ++ q) :
    let w := [Config.sync, s.ident] ++ p ++ [cks p]
    exec (.read n) s = .next { Spec.returned s 0#8 n .success (.rxAvail true :: Spec.takes w) [] with
      rxQueue := q, win := w, mem := Memory.writeBytes s.mem 0x200 p } := by
  have hread := exec_read_of_passes hs hn hq (by simp [hlen]) (hlen ▸ passes_frame ..)
  rwa [← hlen, windowPayload_frame] at hread

/-- Settles O49: the bytes of the WRITE are the frame of its payload (`txStream_of_exec_write`), which the READ accepts
(`exec_read_of_frame`). -/
theorem writeThenReadRoundTrip : Obligations.WriteThenReadRoundTrip := by
  intro a a' b id n bs q hwrite hbs hb hid hwf hq
  obtain ⟨-, hallowed, -⟩ := exec_next_accepted hwrite
  have hn : n.toNat ≤ 8 := payloadOk_eq_true.mp (Bool.and_eq_true_iff.mp hallowed).2
  have hlen := a.length_payload n.toNat
  obtain rfl : bs = [Config.sync, b.ident] ++ a.payload n.toNat ++ [cks (a.payload n.toNat)] := by
    rw [txStream_of_exec_write hwrite] at hbs
    simpa [hid] using hbs.symm
  have hcks := (cksOK_frame_iff Config.sync b.ident _ (a.payload n.toNat)).mpr rfl
  rw [hlen] at hcks
  refine ⟨hcks, _, exec_read_of_frame hb hn hlen hq, rfl, rfl, rfl, fun i hi => ?_⟩
  rw [← State.getElem_payload a (hlen.symm ▸ hi)]
  exact Memory.read_writeBytes_inside _ 0x200 i.toNat _ hwf

end Sys2Proof.Machine
end

section
/-! The four writes (R95 to R99): each opens its power bracket, all but WRITE_RESP emit a break, then the bytes its
sources stand for are handed over and the bracket is closed. -/

namespace Sys2Proof.Machine

/-! ### Handing over bytes -/

/-- `s` once the bytes `bs` have been handed to the transport (R37). -/
def State.sent (s : State) (bs : List Byte) : State :=
  { s with timer := 0#16, trace := s.trace ++ Spec.sends bs, txPending := s.txPending ++ bs }

theorem State.sent_nil (s : State) : s.sent [] = s.elapse := by simp [State.sent, Spec.sends, State.elapse]

theorem State.handOver_sent (s : State) (b : Byte) (bs : List Byte) :
    (s.elapse.handOver b).sent bs = s.sent (b :: bs) := by
  simp [State.sent, Spec.sends, State.elapse, State.handOver, State.emit]

/-- What a source stands for does not depend on the bytes handed over before it. -/
theorem State.source_handOver (s : State) (b : Byte) : (s.elapse.handOver b).source = s.source := by
  funext src
  cases src <;> rfl

/-- One `TxByte` for each source, in order. -/
theorem Plan.run_txBytes (srcs : List TxSource) (k : Plan) (s : State) :
    (Plan.after (srcs.map .txByte) k).run s = k.run (s.sent (srcs.map s.source)) := by
  induction srcs generalizing s with
  | nil => exact (Plan.run_elapse k s).symm.trans (congrArg k.run s.sent_nil.symm)
  | cons src srcs ih =>
    calc (Plan.after ((src :: srcs).map .txByte) k).run s
        = (Plan.after (srcs.map .txByte) k).run (s.elapse.handOver (s.source src)) := rfl
      _ = k.run (s.sent ((src :: srcs).map s.source)) := by
        rw [ih, State.source_handOver, State.handOver_sent, List.map_cons]

/-! ### The opening -/

/-- `s` in a write with the operands `id` and `len` whose power bracket is open and that has had the events `body` since
(R74, R107). -/
def State.opened (s : State) (id len : Byte) (body : List Event) : State :=
  { s with
    opId := id, opLen := len, opMode := false, win := [], done := false, seq := .emit, timer := 0#16,
    xcvr := if s.pwrCtrlEn then .normal else s.xcvr, ctrl := if s.pwrCtrlEn then .normal else s.ctrl,
    trace := s.trace ++ Spec.upTrace s.pwrCtrlEn ++ body }

/-- `EnterNormal()` and the move to the next sequencer state (R74, R107). -/
theorem Plan.run_enterNormal_goto (q : Seq) (k : Plan) (s : State) :
    (Plan.after (enterNormal s.pwrCtrlEn ++ [.goto q]) k).run s =
      k.run { s with
        seq := q, timer := 0#16, xcvr := if s.pwrCtrlEn then .normal else s.xcvr,
        ctrl := if s.pwrCtrlEn then .normal else s.ctrl, trace := s.trace ++ Spec.upTrace s.pwrCtrlEn } := by
  rw [Plan.after_append, Plan.after_cons, Plan.after_nil]
  cases hp : s.pwrCtrlEn with
  | true =>
    rw [enterNormal, if_pos rfl, Plan.run_settle, State.pendingAt_normal, settleTime_eq]
    simp [Act.perform, State.goto, State.elapse, Spec.upTrace, hp]
  | false => simp [enterNormal, Plan.after_nil, Act.perform, State.goto, State.elapse, Spec.upTrace, hp]

/-- A write without a break opens (R97). -/
theorem Plan.run_opening (s : State) (id len : Byte) (p k : Plan) :
    (Plan.after (enterNormal s.pwrCtrlEn ++ [.goto .emit]) k).run (s.issue .powerUp id len false p) =
      k.run (s.opened id len []) := by
  have hk := Plan.run_plan k (s.opened id len []) p
  rw [State.opened, List.append_nil] at hk ⊢
  exact (Plan.run_enterNormal_goto .emit k (s.issue .powerUp id len false p)).trans hk

/-- A write with a break opens (R72, R95, R96, R98). -/
theorem Plan.run_opening_break (s : State) (id len : Byte) (p k : Plan) :
    (Plan.after (enterNormal s.pwrCtrlEn ++ [.goto .brk] ++ emitBreak ++ [.goto .emit]) k).run
        (s.issue .powerUp id len false p) =
      k.run (({ s with txovr := .release } : State).opened id len Spec.breakTrace) := by
  rw [Plan.after_append, Plan.after_append]
  refine (Plan.run_enterNormal_goto .brk _ (s.issue .powerUp id len false p)).trans ?_
  rw [Plan.run_emitBreak, Plan.after_cons, Plan.after_nil, Plan.run_act]
  exact Plan.run_plan k (({ s with txovr := .release } : State).opened id len Spec.breakTrace) p

/-! ### The bytes and the closing -/

/-- What a source stands for in a write with the operands `id` and `len`. -/
def State.byteOf (s : State) (id len : Byte) : TxSource → Byte
  | .sync => Config.sync
  | .ident => id
  | .buf i => s.txbuf i
  | .checksum => cks (s.payload len.toNat)

theorem State.source_opened (s : State) (id len : Byte) (body : List Event) :
    (s.opened id len body).source = s.byteOf id len := by
  funext src
  cases src <;> rfl

/-- The transmit path after the closing of a bracket (R41, R75). -/
theorem pendingAfter_eq (s : State) (bs : List Byte) :
    Spec.pendingAfter s bs = if s.pwrCtrlEn then (s.sent bs).pendingAt .sleep else s.txPending ++ bs := by
  rw [Spec.pendingAfter, State.pendingAt_sleep]
  cases s.pwrCtrlEn <;> rfl

/-- An open write hands over its bytes and returns Success (R76, R99). -/
theorem Plan.run_txBytes_closing (srcs : List TxSource) (s : State) (id len : Byte) (body : List Event) :
    let bs := srcs.map (s.byteOf id len)
    (Plan.after (srcs.map .txByte) (closing s.pwrCtrlEn .success)).run (s.opened id len body) =
      Spec.returned s id len .success (body ++ Spec.sends bs) bs := by
  intro bs
  rw [Plan.run_txBytes, State.source_opened]
  refine (closing_run ((s.opened id len body).sent bs) .success).trans ?_
  have hpending : ((s.opened id len body).sent bs).pendingAt .sleep = (s.sent bs).pendingAt .sleep := rfl
  rw [hpending, Spec.returned, pendingAfter_eq]
  cases hp : s.pwrCtrlEn <;> simp [State.sent, State.opened, Spec.downTrace, settleTime_eq, hp]

/-- The rule of a write that hands over `srcs` without a break (R97). -/
def plainWrite (pwr : Bool) (srcs : List TxSource) : Plan :=
  Plan.after (enterNormal pwr ++ [.goto .emit] ++ srcs.map .txByte) (closing pwr .success)

/-- The rule of a write that hands over `srcs` after a break (R95, R96, R98). -/
def breakWrite (pwr : Bool) (srcs : List TxSource) : Plan :=
  Plan.after (enterNormal pwr ++ [.goto .brk] ++ emitBreak ++ [.goto .emit] ++ srcs.map .txByte) (closing pwr .success)

/-- The whole run of a write without a break. -/
theorem plainWrite_run (srcs : List TxSource) (s : State) (id len : Byte) (p : Plan) :
    let bs := srcs.map (s.byteOf id len)
    (plainWrite s.pwrCtrlEn srcs).run (s.issue .powerUp id len false p) =
      Spec.returned s id len .success (Spec.sends bs) bs := by
  rw [plainWrite, Plan.after_append, Plan.run_opening]
  exact Plan.run_txBytes_closing srcs s id len []

/-- The whole run of a write with a break. -/
theorem breakWrite_run (srcs : List TxSource) (s : State) (id len : Byte) (p : Plan) :
    let bs := srcs.map (s.byteOf id len)
    (breakWrite s.pwrCtrlEn srcs).run (s.issue .powerUp id len false p) =
      { Spec.returned s id len .success (Spec.breakTrace ++ Spec.sends bs) bs with txovr := .release } := by
  rw [breakWrite, Plan.after_append, Plan.run_opening_break]
  exact Plan.run_txBytes_closing srcs { s with txovr := .release } id len Spec.breakTrace

/-! ### The four writes by their sources -/

/-- The sources of the payload operand (R57). -/
def payloadSources (n : Nat) : List TxSource := (List.range n).map fun i => .buf (BitVec.ofNat 8 i)

theorem sendPayload_eq_map (n : Nat) : sendPayload n = (payloadSources n).map .txByte := by
  rw [payloadSources, List.map_map]
  rfl

theorem map_byteOf_payloadSources (s : State) (id len : Byte) (n : Nat) :
    (payloadSources n).map (s.byteOf id len) = s.payload n := by
  rw [payloadSources, List.map_map]
  rfl

theorem planWrite_eq (pwr : Bool) (len : Byte) :
    planWrite pwr len = breakWrite pwr ([.sync, .ident] ++ payloadSources len.toNat ++ [.checksum]) := by
  simp [planWrite, breakWrite, sendPayload_eq_map]

theorem planWriteReq_eq (pwr : Bool) : planWriteReq pwr = breakWrite pwr [.sync, .ident] := by
  simp [planWriteReq, breakWrite]

theorem planWriteResp_eq (pwr : Bool) (len : Byte) :
    planWriteResp pwr len = plainWrite pwr (payloadSources len.toNat ++ [.checksum]) := by
  simp [planWriteResp, plainWrite, sendPayload_eq_map]

theorem planWriteStream_eq (pwr : Bool) (len : Byte) :
    planWriteStream pwr len = breakWrite pwr (payloadSources len.toNat) := by
  rw [planWriteStream, breakWrite, sendPayload_eq_map]

/-- Settles O35: the sources of a WRITE are the sync byte, the identifier, the payload and its checksum. -/
theorem writeResult : Obligations.WriteResult := by
  intro s id len ⟨hi, hc⟩ hlen p bs
  have ha : allowed s (.write id len) = true := by simp [allowed, hc, payloadOk_eq_true.mpr hlen]
  have hbytes : ([.sync, .ident] ++ payloadSources len.toNat ++ [.checksum] : List TxSource).map (s.byteOf id len) =
      bs := by
    rw [List.map_append, List.map_append, map_byteOf_payloadSources]
    rfl
  rw [exec_of_allowed hi ha, planOf, planWrite_eq, ← hbytes]
  exact congrArg _ (breakWrite_run _ s id len _)

/-- Settles O36: the sources of a WRITE_REQ are the sync byte and the identifier. -/
theorem writeRequestResult : Obligations.WriteRequestResult := by
  intro s id ⟨hi, hc⟩ bs
  rw [exec_of_allowed hi (i := .writeReq id) hc, planOf, planWriteReq_eq]
  exact congrArg _ (breakWrite_run [.sync, .ident] s id 0#8 _)

/-- Settles O37: the sources of a WRITE_RESP are the payload and its checksum. -/
theorem writeResponseResult : Obligations.WriteResponseResult := by
  intro s len ⟨hi, hc⟩ hlen p bs
  have ha : allowed s (.writeResp len) = true := by simp [allowed, hc, payloadOk_eq_true.mpr hlen]
  have hbytes : (payloadSources len.toNat ++ [.checksum] : List TxSource).map (s.byteOf 0#8 len) = bs := by
    rw [List.map_append, map_byteOf_payloadSources]
    rfl
  rw [exec_of_allowed hi ha, planOf, planWriteResp_eq, ← hbytes]
  exact congrArg _ (plainWrite_run _ s 0#8 len _)

/-- Settles O38: the sources of a WRITE_STREAM are those of its payload. -/
theorem writeStreamResult : Obligations.WriteStreamResult := by
  intro s len ⟨hi, hc⟩ bs
  have hbytes : (payloadSources len.toNat).map (s.byteOf 0#8 len) = bs := map_byteOf_payloadSources s 0#8 len _
  rw [exec_of_allowed hi (i := .writeStream len) hc, planOf, planWriteStream_eq, ← hbytes]
  exact congrArg _ (breakWrite_run _ s 0#8 len _)

/-! ### A stream that spells a frame -/

/-- The events of a write that hands over `bs` after a break (R95, R96, R98). -/
def breakWriteEvents (pwr : Bool) (bs : List Byte) : List Event :=
  Spec.upTrace pwr ++ (Spec.breakTrace ++ Spec.sends bs) ++ Spec.downTrace pwr

theorem returned_break_trace (s : State) (id len : Byte) (r : Result) (bs : List Byte) :
    (Spec.returned s id len r (Spec.breakTrace ++ Spec.sends bs) bs).trace =
      s.trace ++ breakWriteEvents s.pwrCtrlEn bs := by
  simp [Spec.returned, breakWriteEvents]

theorem trace_of_exec_write {s t : State} {id len : Byte} (h : exec (.write id len) s = .next t) :
    t.trace = s.trace ++
      breakWriteEvents s.pwrCtrlEn ([0x55#8, id] ++ s.payload len.toNat ++ [cks (s.payload len.toNat)]) := by
  obtain ⟨hi, ha, -⟩ := exec_next_accepted h
  obtain ⟨hc, hlen⟩ := Bool.and_eq_true_iff.mp ha
  obtain rfl := Host.Outcome.next.inj (h.symm.trans (writeResult s id len ⟨hi, hc⟩ (payloadOk_eq_true.mp hlen)))
  exact returned_break_trace s id len .success _

theorem trace_of_exec_writeStream {s t : State} {len : Byte} (h : exec (.writeStream len) s = .next t) :
    t.trace = s.trace ++ breakWriteEvents s.pwrCtrlEn (s.payload len.toNat) := by
  obtain ⟨hi, hc, -⟩ := exec_next_accepted h
  obtain rfl := Host.Outcome.next.inj (h.symm.trans (writeStreamResult s len ⟨hi, hc⟩))
  exact returned_break_trace s 0#8 len .success _

/-- Settles O41: a WRITE and a WRITE_STREAM have the same events around their bytes, and the stream's payload is the
bytes of the WRITE. -/
theorem streamCanSpellAFrame : Obligations.StreamCanSpellAFrame := by
  intro s s' t t' id len hpwr hlen hpayload hwrite hstream
  have hlen' : (len + 3#8).toNat = len.toNat + 3 := BitVec.toNat_add_of_lt (show len.toNat + 3 < 256 by omega)
  refine ⟨_, trace_of_exec_write hwrite, ?_⟩
  rw [trace_of_exec_writeStream hstream, hlen', hpayload, hpwr]

end Sys2Proof.Machine
end

section
/-! The single moves of the read state machine (R107, R108): each is the equation of its case of `advance`. -/

namespace Sys2Proof.Machine

/-- A window fails the checks exactly when the block's verdict on it is false. -/
theorem State.windowOK_eq_false {s : State} (h : ¬ Spec.Passes s.ident s.win s.opLen.toNat) : s.windowOK = false :=
  Bool.eq_false_iff.mpr fun hok => h (s.windowOK_iff.mp hok)

/-- Settles O22: one equation of `advance` for each row, and the verdict by `State.windowOK_iff`. -/
theorem readStateMachine : Obligations.ReadStateMachine := by
  intro s p p' d r ht
  refine ⟨fun hp hq => ?_, fun hp hq => ?_, fun hp b q hq => ?_, fun hp hw => ?_, fun hp hw => ?_, fun hp => ?_⟩
  · have hempty : s.rxQueue.isEmpty = true := List.isEmpty_iff.mpr hq
    rw [advance_poll ht hp, hempty]
    rfl
  · have hne : s.rxQueue.isEmpty = false := by simpa using hq
    rw [advance_poll ht hp, hne]
    rfl
  · rw [advance_take_cons ht hp hq]
    cases d <;> exact ⟨rfl, rfl, rfl, rfl⟩
  · rw [advance_judge ht hp, State.verdict, s.windowOK_iff.mpr hw]
    rfl
  · rw [advance_judge ht hp, State.verdict, State.windowOK_eq_false hw]
    rfl
  · rw [advance_act ht hp]
    rfl

/-- Settles O24: the wait for a byte is a fixed point of `advance`. -/
theorem waitingReadStays : Obligations.WaitingReadStays := fun _ _ _ n ht hp hq =>
  Function.iterate_fixed (advance_take_nil ht hp hq) n

end Sys2Proof.Machine
end

section
/-! The two reads from their acceptance (R105, R106, R109): the power bracket opens, the poll finds data or not, bytes
are taken, and the bracket closes with the outcome. -/

namespace Sys2Proof.Machine

/-! ### The bracket of a read -/

/-- `s` in a read of size `n` whose power bracket is open, in the sequencer state `q`, with the window `w` and the
events `body` since the bracket opened (R74, R107). -/
def State.inRead (s : State) (n : Byte) (q : Seq) (w : List Byte) (body : List Event) : State :=
  { s with
    opId := 0#8, opLen := n, opMode := false, win := w, done := false, seq := q, timer := 0#16,
    xcvr := if s.pwrCtrlEn then .normal else s.xcvr, ctrl := if s.pwrCtrlEn then .normal else s.ctrl,
    trace := s.trace ++ Spec.upTrace s.pwrCtrlEn ++ body }

/-- A read opens its bracket and comes to the poll (R105, R106). -/
theorem Plan.run_opening_read (s : State) (n : Byte) (p k : Plan) :
    (Plan.after (enterNormal s.pwrCtrlEn ++ [.goto .poll]) k).run (s.issue .powerUp 0#8 n false p) =
      k.run (s.inRead n .poll [] []) := by
  have hk := Plan.run_plan k (s.inRead n .poll [] []) p
  rw [State.inRead, List.append_nil] at hk ⊢
  exact (Plan.run_enterNormal_goto .poll k (s.issue .powerUp 0#8 n false p)).trans hk

/-- The answer of the poll in a read (R107). -/
theorem State.answerPoll_inRead (s : State) (n : Byte) (b : Bool) :
    (s.inRead n .poll [] []).elapse.answerPoll b =
      s.inRead n (if b then .reading else .noData) [] [.rxAvail b] := by
  simp [State.inRead, State.answerPoll, State.elapse, State.emit, State.goto]

/-- A read that finds data comes to its first byte in Reading. -/
theorem run_read_of_data {s : State} (h : s.rxQueue ≠ []) (n : Byte) (p empty avail : Plan) :
    (Plan.after (enterNormal s.pwrCtrlEn ++ [.goto .poll]) (.poll empty avail)).run
        (s.issue .powerUp 0#8 n false p) = avail.run (s.inRead n .reading [] [.rxAvail true]) :=
  run_to_reading s n p empty avail h

/-- A read that finds no data goes to its NoData way. -/
theorem run_read_of_no_data {s : State} (h : s.rxQueue = []) (n : Byte) (p empty avail : Plan) :
    (Plan.after (enterNormal s.pwrCtrlEn ++ [.goto .poll]) (.poll empty avail)).run
        (s.issue .powerUp 0#8 n false p) = empty.run (s.inRead n .noData [] [.rxAvail false]) := by
  have hempty : (s.inRead n .poll [] []).rxQueue.isEmpty = true := List.isEmpty_iff.mpr h
  rw [Plan.run_opening_read, Plan.run, if_pos hempty, State.answerPoll_inRead]
  rfl

/-- The bracket closes on the outcome `r`, from whatever sequencer state (R76, R107, decision D11). -/
theorem closing_run_inRead (s : State) (n : Byte) (r : Result) (q : Seq) (w : List Byte) (body : List Event) :
    (closing s.pwrCtrlEn r).run (s.inRead n q w body) = { Spec.returned s 0#8 n r body [] with win := w } := by
  refine (closing_run (s.inRead n q w body) r).trans ?_
  have hpending : (s.inRead n q w body).pendingAt .sleep = s.pendingAt .sleep := rfl
  rw [hpending, Spec.returned, pendingAfter_nil]
  cases hp : s.pwrCtrlEn <;> simp [State.inRead, Spec.downTrace, settleTime_eq, hp]

theorem allowed_read {s : State} (h : ReadyToRead s) {n : Byte} (hn : n.toNat ≤ 8) : allowed s (.read n) = true := by
  simp [allowed, h.1.2, h.2, payloadOk_eq_true.mpr hn]

theorem allowed_readStream {s : State} (h : ReadyToRead s) (n : Byte) : allowed s (.readStream n) = true := by
  simp [allowed, h.1.2, h.2]

/-- Settles O42: the poll finds no data (`run_read_of_no_data`), and the bracket closes. -/
theorem readWithoutData : Obligations.ReadWithoutData := by
  intro s n hs hq
  have hrun : ∀ p avail : Plan,
      (Plan.after (enterNormal s.pwrCtrlEn ++ [.goto .poll]) (.poll (closing s.pwrCtrlEn .noData) avail)).run
        (s.issue .powerUp 0#8 n false p) = Spec.returned s 0#8 n .noData [.rxAvail false] [] := fun p avail =>
    (run_read_of_no_data hq n p _ avail).trans (closing_run_inRead s n .noData .noData [] _)
  refine ⟨fun hn => ?_, ?_⟩
  · rw [exec_of_allowed hs.1.1 (allowed_read hs hn)]
    exact congrArg _ (hrun _ _)
  · rw [exec_of_allowed hs.1.1 (allowed_readStream hs n)]
    exact congrArg _ (hrun _ _)

/-! ### A READ that finds its window -/

/-- Bytes written in a row lie over the old content of the buffers (R34). -/
theorem rowOver_writeBytes {m : List Host.Cell} (hm : Memory.wf m = true) (a : Nat) (bs : List Byte) :
    Spec.RowOver (Memory.writeBytes m a bs) m a bs :=
  ⟨fun i hi => Memory.read_writeBytes_inside bs a i hi hm, fun x hx => Memory.read_writeBytes_outside bs m a x hx⟩

/-- Settles O43: the next state is that of `exec_read_of_passes`, where the payload is written in a row. -/
theorem readAcceptsAWindow : Obligations.ReadAcceptsAWindow := fun _ _ _ _ hs hn hwf hq hlen hw =>
  ⟨_, exec_read_of_passes hs hn hq hlen hw, rowOver_writeBytes hwf 0x200 _⟩

theorem State.windowTaken_eq_inRead (s : State) (n : Byte) (w q : List Byte) :
    s.windowTaken n w q =
      ({ s with rxQueue := q } : State).inRead n .reading w (.rxAvail true :: Spec.takes w) := by
  have htrace : (s.windowTaken n w q).trace =
      s.trace ++ Spec.upTrace s.pwrCtrlEn ++ .rxAvail true :: Spec.takes w := List.append_assoc _ [_] _
  rw [State.inRead, ← htrace]
  rfl

/-- `s` with what a wrong window of size `n` leaves: `q` in the queue, and `n` fresh draws in RXBUF (R105, U2). -/
def State.windowSpoiled (s : State) (n : Byte) (q : List Byte) : State :=
  { s with
    rxQueue := q, mem := Memory.writeBytes s.mem 0x200 (s.drawn n.toNat), draws := s.draws + n.toNat }

/-- A wrong window takes the READ to Invalid, its bytes spoiled (R105, R107). -/
theorem State.spoilPayload_windowTaken {s : State} {n : Byte} {w q : List Byte}
    (hbad : (s.windowTaken n w q).windowOK = false) :
    (s.windowTaken n w q).elapse.verdict.elapse.spoilPayload =
      (s.windowSpoiled n q).inRead n .invalid w (.rxAvail true :: Spec.takes w) := by
  have hverdict : (s.windowTaken n w q).elapse.verdict = (s.windowTaken n w q).elapse.goto .invalid := by
    rw [State.verdict]
    exact congrArg (fun b => State.goto _ (if b then .valid else .invalid)) hbad
  rw [hverdict, State.windowTaken_eq_inRead]
  rfl

/-- Settles O44: the READ comes to the verdict on its window (`exec_read_of_window`), which is Invalid; the draws are
written in a row. -/
theorem readRejectsAWindow : Obligations.ReadRejectsAWindow := by
  intro s n w q hs hn hwf hq hlen hw
  refine ⟨Memory.writeBytes s.mem 0x200 (s.drawn n.toNat), ?_, rowOver_writeBytes hwf 0x200 _⟩
  have hbad : (s.windowTaken n w q).windowOK = false := State.windowOK_eq_false hw
  rw [exec_read_of_window hs hn hq hlen, Plan.run, if_neg (Bool.eq_false_iff.mp hbad), Plan.run_act, Act.perform,
    State.spoilPayload_windowTaken hbad]
  exact congrArg _ (closing_run_inRead (s.windowSpoiled n q) n .validationFailed .invalid w _)

/-! ### A READ_STREAM that finds its bytes -/

/-- With `n` bytes in the queue a stream read takes them all into RXBUF, from index 0 on (R106). -/
theorem Plan.run_taking_stream {bs q : List Byte} {n : Byte} (k : Plan) {s : State} (hq : s.rxQueue = bs ++ q)
    (hlen : bs.length = n.toNat) :
    (Plan.taking (streamDests n.toNat) k).run s =
      k.run { s with
        rxQueue := q, mem := Memory.writeBytes s.mem 0x200 bs, trace := s.trace ++ Spec.takes bs } := by
  have hn := n.isLt
  have hdests : streamDests n.toNat = (streamPairs 0 bs).map Prod.fst := by
    rw [streamPairs_fst, hlen, streamDests, List.range_eq_range']
  rw [hdests, Plan.run_taking k _ q s (by rw [streamPairs_snd, hq]), State.takeAll_stream 0 bs q s hq (by omega),
    Spec.takes]

/-- Settles O45: all bytes go to RXBUF in a row (`Plan.run_taking_stream`), and the bracket closes on Success. -/
theorem readStreamCopies : Obligations.ReadStreamCopies := by
  intro s n bs q hs hwf hq hne hlen
  refine ⟨Memory.writeBytes s.mem 0x200 bs, ?_, rowOver_writeBytes hwf 0x200 bs⟩
  let u : State := { s with rxQueue := q, mem := Memory.writeBytes s.mem 0x200 bs }
  let k : Plan := .act (.goto .valid) (closing s.pwrCtrlEn .success)
  rw [exec_of_allowed hs.1.1 (allowed_readStream hs n)]
  refine congrArg _ ?_
  calc (planReadStream s.pwrCtrlEn n).run (s.accepted (.readStream n))
      = (Plan.taking (streamDests n.toNat) k).run (s.inRead n .reading [] [.rxAvail true]) :=
        run_read_of_data hne n _ _ _
    _ = k.run (u.inRead n .reading [] ([.rxAvail true] ++ Spec.takes bs)) := by
        rw [Plan.run_taking_stream k (s := s.inRead n .reading [] [.rxAvail true]) hq hlen]
        simp [State.inRead, u]
    _ = { Spec.returned s 0#8 n .success (.rxAvail true :: Spec.takes bs) [] with rxQueue := q, mem := u.mem } :=
        closing_run_inRead u n .success .valid [] _

/-! ### A read that waits -/

/-- With fewer than `n + 3` bytes in the queue a framed read takes them into WIN and waits for the next (R108). -/
theorem Plan.run_taking_window_waits (n : Nat) (k : Plan) {s : State} (h : s.rxQueue.length < n + 3) :
    ∃ p, (Plan.taking (windowDests n) k).run s =
      { s with
        rxQueue := [], win := s.win ++ s.rxQueue, trace := s.trace ++ Spec.takes s.rxQueue, timer := 0#16,
        plan := .take .window p } := by
  obtain ⟨j, hj⟩ := Nat.exists_eq_add_of_lt h
  have hdests : windowDests n = (s.rxQueue.map fun b => (RxDest.window, b)).map Prod.fst ++
      .window :: List.replicate j .window := by
    rw [windowDests, hj, Nat.add_assoc, windowDests_split, List.replicate_succ]
  have hbytes : s.rxQueue = (s.rxQueue.map fun b => (RxDest.window, b)).map Prod.snd := by simp [Function.comp_def]
  refine ⟨Plan.taking (List.replicate j .window) k, ?_⟩
  rw [hdests, Plan.run_taking_waits _ _ k _ s hbytes, State.takeAll_window _ [] s (List.append_nil _).symm]
  rfl

/-- With fewer than `n` bytes in the queue a stream read takes them into RXBUF and waits for the next (R108). -/
theorem Plan.run_taking_stream_waits (n : Byte) (k : Plan) {s : State} (h : s.rxQueue.length < n.toNat) :
    ∃ p, (Plan.taking (streamDests n.toNat) k).run s =
      { s with
        rxQueue := [], mem := Memory.writeBytes s.mem 0x200 s.rxQueue, trace := s.trace ++ Spec.takes s.rxQueue,
        timer := 0#16, plan := .take (.rxbuf (BitVec.ofNat 8 s.rxQueue.length)) p } := by
  have hn := n.isLt
  obtain ⟨j, hj⟩ := Nat.exists_eq_add_of_lt h
  have hdests : streamDests n.toNat = (streamPairs 0 s.rxQueue).map Prod.fst ++
      .rxbuf (BitVec.ofNat 8 s.rxQueue.length) ::
        (List.range' (s.rxQueue.length + 1) j).map fun i => .rxbuf (BitVec.ofNat 8 i) := by
    rw [hj, Nat.add_assoc, streamDests_split, List.range'_succ, List.map_cons, streamPairs_fst]
  refine ⟨Plan.taking ((List.range' (s.rxQueue.length + 1) j).map fun i => .rxbuf (BitVec.ofNat 8 i)) k, ?_⟩
  rw [hdests, Plan.run_taking_waits _ _ k _ s (streamPairs_snd 0 _).symm,
    State.takeAll_stream 0 _ [] s (List.append_nil _).symm (by omega)]
  rfl

/-- Settles O46: both reads come to Reading (`run_read_of_data`), take what there is and wait. -/
theorem readWaitsForBytes : Obligations.ReadWaitsForBytes := by
  intro s n hs hwf hne
  refine ⟨fun hn hlt => ?_, fun hlt => ?_⟩
  · rw [exec_of_allowed hs.1.1 (allowed_read hs hn)]
    obtain ⟨p, hp⟩ := Plan.run_taking_window_waits n.toNat
      (.judge (.act .spoilPayload (closing s.pwrCtrlEn .validationFailed))
        (.act .copyPayload (closing s.pwrCtrlEn .success)))
      (s := s.inRead n .reading [] [.rxAvail true]) hlt
    exact ⟨p, congrArg _ ((run_read_of_data hne n _ _ _).trans hp)⟩
  · rw [exec_of_allowed hs.1.1 (allowed_readStream hs n)]
    obtain ⟨p, hp⟩ := Plan.run_taking_stream_waits n (.act (.goto .valid) (closing s.pwrCtrlEn .success))
      (s := s.inRead n .reading [] [.rxAvail true]) hlt
    exact ⟨p, _, congrArg _ ((run_read_of_data hne n _ _ _).trans hp), rowOver_writeBytes hwf 0x200 _⟩

end Sys2Proof.Machine
end

section
/-! A read in pieces (R108): past the poll a rule only asks the queue for its next byte, so bytes that come while it
waits could as well have been there before. -/

namespace Sys2Proof.Machine

/-- The bytes `w` arrive (R23). -/
def State.hears (s : State) (w : List Byte) : State := { s with rxQueue := s.rxQueue ++ w }

theorem Act.perform_hears (a : Act) (s : State) (w : List Byte) : a.perform (s.hears w) = (a.perform s).hears w := by
  cases a <;> rfl

theorem State.takeByte_hears (s : State) (d : RxDest) (b : Byte) (q w : List Byte) :
    (s.hears w).takeByte d b (q ++ w) = (s.takeByte d b q).hears w := by
  cases d <;> rfl

/-- Run with the bytes `w` coming late, the rule ends as it does with them there from the start. -/
def Plan.Resumes (p : Plan) : Prop :=
  ∀ (s : State) (w : List Byte), p.run (s.hears w) = (p.run s).plan.run ((p.run s).hears w)

theorem Plan.Resumes.stop : Plan.stop.Resumes := fun _ _ => rfl

theorem Plan.Resumes.act {a : Act} {k : Plan} (hk : k.Resumes) : (Plan.act a k).Resumes := by
  intro s w
  rw [Plan.run_act, Plan.run_act, ← hk, ← Act.perform_hears]
  rfl

/-- The one place where the rule stops for want of a byte: it goes on there when the bytes have come. -/
theorem Plan.Resumes.take {d : RxDest} {k : Plan} (hk : k.Resumes) : (Plan.take d k).Resumes := by
  intro s w
  cases hq : s.rxQueue with
  | nil =>
    have hstop : (Plan.take d k).run s = { s.elapse with plan := .take d k } := by rw [Plan.run, hq]
    rw [hstop]
    exact ((Plan.run_plan _ (s.hears w).elapse _).trans (Plan.run_elapse _ _)).symm
  | cons b q =>
    have hlate : (Plan.take d k).run s = k.run (s.elapse.takeByte d b q) := by rw [Plan.run, hq]
    have hearly : (Plan.take d k).run (s.hears w) = k.run ((s.hears w).elapse.takeByte d b (q ++ w)) := by
      have hq' : (s.hears w).rxQueue = b :: (q ++ w) := congrArg (· ++ w) hq
      rw [Plan.run, hq']
    rw [hlate, hearly, ← hk, ← State.takeByte_hears]
    rfl

theorem Plan.Resumes.judge {bad good : Plan} (hb : bad.Resumes) (hg : good.Resumes) :
    (Plan.judge bad good).Resumes := by
  intro s w
  have hok : (s.hears w).windowOK = s.windowOK := rfl
  rw [Plan.run, Plan.run, hok]
  split
  · exact hg s.elapse.verdict w
  · exact hb s.elapse.verdict w

theorem Plan.Resumes.after {acts : List Act} {k : Plan} (hk : k.Resumes) : (Plan.after acts k).Resumes := by
  induction acts with
  | nil => exact hk
  | cons a acts ih => exact ih.act

theorem Plan.Resumes.taking {ds : List RxDest} {k : Plan} (hk : k.Resumes) : (Plan.taking ds k).Resumes := by
  induction ds with
  | nil => exact hk
  | cons d ds ih => exact ih.take

theorem closing_resumes (pwr : Bool) (r : Result) : (closing pwr r).Resumes := Plan.Resumes.stop.after

/-- A read that finds data is a rule that resumes, begun in Reading. -/
theorem exists_resumes_of_isRead {i : Instr} {n : Byte} (h : Spec.isRead i n) (pwr : Bool) :
    ∃ avail : Plan, avail.Resumes ∧ ∀ s : State, s.pwrCtrlEn = pwr → s.rxQueue ≠ [] →
      (planOf pwr i).run (s.accepted i) = avail.run (s.inRead n .reading [] [.rxAvail true]) := by
  rcases h with rfl | rfl
  · refine ⟨Plan.taking (windowDests n.toNat) (.judge (.act .spoilPayload (closing pwr .validationFailed))
      (.act .copyPayload (closing pwr .success))),
      .taking (.judge (closing_resumes _ _).act (closing_resumes _ _).act), ?_⟩
    rintro s rfl hne
    exact run_read_of_data hne n _ _ _
  · refine ⟨Plan.taking (streamDests n.toNat) (.act (.goto .valid) (closing pwr .success)),
      .taking (closing_resumes _ _).act, ?_⟩
    rintro s rfl hne
    exact run_read_of_data hne n _ _ _

/-- Settles O47: with `w` in the queue the poll is true either way, and what follows it resumes
(`exists_resumes_of_isRead`). -/
theorem readResumes : Obligations.ReadResumes := by
  intro i n s t w w' hr hw h
  let u : State := { s with rxQueue := w }
  obtain ⟨hi, ha, ht⟩ := exec_next_accepted h
  obtain ⟨avail, hResumes, hrun⟩ := exists_resumes_of_isRead hr s.pwrCtrlEn
  obtain rfl : t = avail.run (u.inRead n .reading [] [.rxAvail true]) := ht.trans (hrun u rfl hw)
  have hallowed : allowed (u.hears w') i = true := by
    rcases hr with rfl | rfl <;> exact ha
  have hne : (u.hears w').rxQueue ≠ [] := List.append_ne_nil_of_left_ne_nil hw w'
  calc exec i (u.hears w')
      = .next ((planOf s.pwrCtrlEn i).run ((u.hears w').accepted i)) := exec_of_allowed hi hallowed
    _ = .next (avail.run ((u.inRead n .reading [] [.rxAvail true]).hears w')) := congrArg _ (hrun _ rfl hne)
    _ = _ := congrArg _ (hResumes _ w')

end Sys2Proof.Machine
end

section
/-! The results of the three system commands (R115, R116, R117): each is allowed in the state it is issued in, and its
rule runs to its return. -/

namespace Sys2Proof.Machine

/-- The initialization settle delay (R115, R116). -/
theorem initTime_eq : initTime = 200#16 := rfl

theorem allowed_constructM {s : State} (h : Fresh s) : allowed s (.constructM true) = true := by
  simp [allowed, h.2]

theorem allowed_constructS {s : State} (h : Fresh s) (id : Byte) : allowed s (.constructS true id) = true := by
  simp [allowed, h.2]

/-- Settles O32: the run of the rule (`planConstructM_run`) from the acceptance. -/
theorem constructMasterResult : Obligations.ConstructMasterResult := by
  intro s hs
  rw [exec_of_allowed hs.1 (allowed_constructM hs), planOf, planConstructM_run, initTime_eq]
  rfl

/-- Settles O33: the run of the rule (`planConstructS_run`) from the acceptance, for either value of power control. -/
theorem constructSlaveResult : Obligations.ConstructSlaveResult := by
  intro s id hs
  rw [exec_of_allowed hs.1 (allowed_constructS hs id), planOf, planConstructS_run, initTime_eq, settleTime_eq]
  rfl

/-- Settles O34: the run of the rule (`planCfgRx_run`) from the acceptance. -/
theorem configureReceiveResult : Obligations.ConfigureReceiveResult := by
  intro s ⟨hi, hc⟩
  rw [exec_of_allowed hi (i := .cfgRx) hc, planOf, planCfgRx_run]
  rfl

end Sys2Proof.Machine
end

section
/-! The reset (R140, R142; decision D8): the values it gives the block, at power on and when `rst` comes while a command
is in progress. -/

namespace Sys2Proof.Machine

/-- STATUS reads 0 after reset (R140). -/
theorem State.powerOn_statusWord (d : Nat) : (State.powerOn d).statusWord = 0#32 := by
  simp [State.statusWord, State.busy, State.powerOn, flagBits, Result.code]

/-- NODE has no bits above the role, so none that reset would have to clear (R21, R140). -/
theorem State.nodeWord_high (s : State) : s.nodeWord.extractLsb' 9 23 = 0#23 := by
  rw [State.nodeWord, BitVec.extractLsb'_or, extractLsb'_setWidth_high, extractLsb'_flagBits (by decide)]
  rfl

/-- Settles O10: every register but NODE is a value written out in `State.powerOn`. -/
theorem resetValues : Obligations.ResetValues :=
  ⟨rfl, rfl, rfl, rfl, State.powerOn_statusWord 0, rfl, rfl, State.nodeWord_high _, rfl, rfl, rfl, rfl⟩

/-- The read of STATUS that ends a step touches only what the host got and its place in a WAIT (R64). -/
theorem State.exists_pollStatus_eq_withHost (s : State) : ∃ v w, s.pollStatus = s.withHost v w :=
  State.pollStatus_keeps (P := fun u => ∃ v w, u = s.withHost v w)
    (by rintro _ v w ⟨_, _, rfl⟩; exact ⟨v, w, rfl⟩) s ⟨s.rdata, s.inWait, rfl⟩

/-- Settles O11: whatever the command in progress, the step is `State.hardReset` and a read of STATUS. -/
theorem resetInputAbandonsTheCommand : Obligations.ResetInputAbandonsTheCommand := by
  intro s rest h
  obtain ⟨v, w, hpoll⟩ := ({ s with inputs := rest } : State).hardReset.exists_pollStatus_eq_withHost
  refine ⟨_, (step_other h rfl).trans (congrArg _ hpoll), ?_⟩
  exact ⟨rfl, rfl, rfl, rfl, rfl, State.powerOn_statusWord s.draws, rfl, rfl, rfl, rfl, rfl, rfl, rfl, rfl, rfl⟩

end Sys2Proof.Machine
end

section
/-! The duration of a command (R153): every way through a rule to its return holds the same total of `Delay` times, and
the `Delay` events of a run that returns are those of its way. -/

namespace Sys2Proof.Machine

/-! ### The delays of a rule -/

/-- Every way through the rule ends in the return, after `Delay`s of `n` time units in all. -/
inductive Plan.Lasts : Plan → Nat → Prop
  | ret (r : Option Result) : Lasts (.act (.ret r) .stop) 0
  | delay (t : BitVec 16) {k : Plan} {n : Nat} (hk : Lasts k n) : Lasts (.act (.delay t) k) (t.toNat + n)
  | act {a : Act} {k : Plan} {n : Nat} (ha : a.staysInCommand) (hw : ∀ t, a ≠ .delay t) (hk : Lasts k n) :
      Lasts (.act a k) n
  | poll {e a : Plan} {n : Nat} (he : Lasts e n) (ha : Lasts a n) : Lasts (.poll e a) n
  | take {d : RxDest} {k : Plan} {n : Nat} (hk : Lasts k n) : Lasts (.take d k) n
  | judge {b g : Plan} {n : Nat} (hb : Lasts b n) (hg : Lasts g n) : Lasts (.judge b g) n

section
variable {k : Plan} {n : Nat} (hk : k.Lasts n)
include hk

theorem Plan.Lasts.taking : ∀ ds : List RxDest, (Plan.taking ds k).Lasts n
  | [] => hk
  | _ :: ds => .take (Plan.Lasts.taking ds)

theorem Plan.Lasts.txBytes : ∀ srcs : List TxSource, (Plan.after (srcs.map .txByte) k).Lasts n
  | [] => hk
  | _ :: srcs => .act trivial nofun (Plan.Lasts.txBytes srcs)

/-- The break and its delimiter (R72). -/
theorem Plan.Lasts.emitBreak : (Plan.after emitBreak k).Lasts (1248 + (96 + n)) := by
  have hdelimiter : (Plan.after [.delay (bitTimes Config.breakDelimBits), .txOverride .release] k).Lasts (96 + n) :=
    .delay 96#16 (.act trivial nofun hk)
  exact .act trivial nofun (.delay 1248#16 (.act trivial nofun hdelimiter))

end

/-- The settle time of one move of the control line, none with power control disabled (R74, R75). -/
def settleUnits (pwr : Bool) : Nat := if pwr then 20 else 0

theorem Plan.Lasts.enterNormal {k : Plan} {n : Nat} (hk : k.Lasts n) (pwr : Bool) :
    (Plan.after (enterNormal pwr) k).Lasts (settleUnits pwr + n) := by
  cases pwr with
  | true => exact .act trivial nofun (.delay settleTime hk)
  | false =>
    rw [settleUnits, if_neg Bool.false_ne_true, Nat.zero_add]
    exact hk

theorem closing_lasts (pwr : Bool) (r : Result) : (closing pwr r).Lasts (settleUnits pwr) := by
  cases pwr with
  | true => exact .act nofun nofun (.act trivial nofun (.delay settleTime (.ret r)))
  | false => exact .act nofun nofun (.ret r)

theorem plainWrite_lasts (pwr : Bool) (srcs : List TxSource) :
    (plainWrite pwr srcs).Lasts (settleUnits pwr + settleUnits pwr) := by
  rw [plainWrite, List.append_assoc, Plan.after_append, List.singleton_append, Plan.after_cons]
  exact (Plan.Lasts.act (a := .goto .emit) nofun nofun ((closing_lasts pwr _).txBytes srcs)).enterNormal pwr

theorem breakWrite_lasts (pwr : Bool) (srcs : List TxSource) :
    (breakWrite pwr srcs).Lasts (settleUnits pwr + 1248 + 96 + settleUnits pwr) := by
  simp only [breakWrite, Plan.after_append, Plan.after_cons, Plan.after_nil, Nat.add_assoc]
  have hbytes := Plan.Lasts.act (a := .goto .emit) nofun nofun ((closing_lasts pwr .success).txBytes srcs)
  exact (Plan.Lasts.act (a := .goto .brk) nofun nofun hbytes.emitBreak).enterNormal pwr

/-- A read opens its bracket and polls; on every way it closes the bracket once (R105, R106). -/
theorem read_lasts {pwr : Bool} {avail : Plan} (r : Result) (h : avail.Lasts (settleUnits pwr)) :
    (Plan.after (enterNormal pwr ++ [.goto .poll]) (.poll (closing pwr r) avail)).Lasts
      (settleUnits pwr + settleUnits pwr) := by
  rw [Plan.after_append]
  exact (Plan.Lasts.act (a := .goto .poll) nofun nofun (.poll (closing_lasts pwr r) h)).enterNormal pwr

/-- The nine rules hold the delays of R153. -/
theorem planOf_lasts (pwr : Bool) (i : Instr) : (planOf pwr i).Lasts (Spec.duration pwr i) := by
  have hclose := closing_lasts pwr
  cases i with
  | constructM mode =>
    have hend := Plan.Lasts.act (a := .markConstructed) trivial nofun (.ret none)
    exact hend.delay initTime
  | constructS mode id =>
    have hend := Plan.Lasts.act (a := .markConstructed) trivial nofun (.ret none)
    rw [planOf, planConstructS, Plan.after_append, Plan.after_append]
    exact .delay initTime (.act (a := .goto .powerUp) nofun nofun (hend.enterNormal pwr))
  | cfgRx => exact .act trivial nofun (.act trivial nofun (.ret none))
  | write id len =>
    rw [planOf, planWrite_eq]
    exact breakWrite_lasts pwr _
  | writeReq id =>
    rw [planOf, planWriteReq_eq]
    exact breakWrite_lasts pwr _
  | writeResp len =>
    rw [planOf, planWriteResp_eq]
    exact plainWrite_lasts pwr _
  | writeStream len =>
    rw [planOf, planWriteStream_eq]
    exact breakWrite_lasts pwr _
  | read len =>
    have hjudge := Plan.Lasts.judge (.act (a := .spoilPayload) trivial nofun (hclose .validationFailed))
      (.act (a := .copyPayload) trivial nofun (hclose .success))
    exact read_lasts .noData (hjudge.taking _)
  | readStream len =>
    have hvalid := Plan.Lasts.act (a := .goto .valid) nofun nofun (hclose .success)
    exact read_lasts .noData (hvalid.taking _)

/-! ### The delays of a run -/

theorem delayTotal_append (evs evs' : List Event) : delayTotal (evs ++ evs') = delayTotal evs + delayTotal evs' := by
  simp [delayTotal]

theorem Act.delayTotal_event {a : Act} (h : ∀ t, a ≠ .delay t) (s : State) : delayTotal (a.event s).toList = 0 := by
  cases a with
  | delay t => exact absurd rfl (h t)
  | _ => rfl

/-- The events from `s` to `t` hold `Delay`s of `n` time units in all. -/
def Delays (n : Nat) (s t : State) : Prop := ∃ evs, t.trace = s.trace ++ evs ∧ delayTotal evs = n

theorem Delays.prepend {m n : Nat} {s u t : State} {evs : List Event} (h : Delays n u t)
    (hu : u.trace = s.trace ++ evs) (hd : delayTotal evs + n = m) : Delays m s t := by
  obtain ⟨evs', ht, hevs'⟩ := h
  exact ⟨evs ++ evs', by rw [ht, hu, List.append_assoc], by rw [delayTotal_append, hevs', hd]⟩

/-- A run of such a rule that comes to its return, not to a wait for a byte, has its delays. -/
theorem Plan.Lasts.run {p : Plan} {n : Nat} (h : p.Lasts n) :
    ∀ s : State, s.seq ≠ .idle → (p.run s).seq = .idle → Delays n s (p.run s) := by
  induction h with
  | ret r => exact fun s _ _ => ⟨[], (List.append_nil _).symm, rfl⟩
  | delay t _ ih => exact fun s hs hidle => (ih (s.elapse.startDelay t) hs hidle).prepend rfl rfl
  | @act a k n ha hw _ ih =>
    intro s hs hidle
    have hrest := ih (a.perform s.elapse) (Act.seq_perform_ne_idle ha hs) hidle
    exact hrest.prepend (a.trace_perform s.elapse) (by rw [a.delayTotal_event hw, Nat.zero_add])
  | poll _ _ ihe iha =>
    intro s _
    rw [Plan.run]
    have htrace := s.elapse.answerPoll_trace
    split
    · exact fun hidle => (ihe (s.elapse.answerPoll false) nofun hidle).prepend (htrace false) (Nat.zero_add _)
    · exact fun hidle => (iha (s.elapse.answerPoll true) nofun hidle).prepend (htrace true) (Nat.zero_add _)
  | @take d k n _ ih =>
    intro s hs
    rw [Plan.run]
    split
    · exact fun hidle => absurd hidle hs
    next b q _ =>
      have hb : (s.elapse.takeByte d b q).seq ≠ .idle := by simpa using hs
      exact fun hidle => (ih _ hb hidle).prepend (s.elapse.trace_takeByte d b q) (Nat.zero_add _)
  | judge _ _ ihb ihg =>
    intro s _
    have hv : s.elapse.verdict.seq ≠ .idle := by
      rw [State.verdict_seq]
      split <;> exact nofun
    rw [Plan.run]
    split
    · exact ihg s.elapse.verdict hv
    · exact ihb s.elapse.verdict hv

/-- Settles O20: the rule holds the delays of R153 on every way (`planOf_lasts`), and its run has them
(`Plan.Lasts.run`). -/
theorem commandDurations : Obligations.CommandDurations := by
  intro i s t h hidle
  obtain ⟨-, -, rfl⟩ := exec_next_accepted h
  obtain ⟨evs, ht, hevs⟩ := (planOf_lasts s.pwrCtrlEn i).run (s.accepted i) (firstOf_ne_idle i) hidle
  exact ⟨evs, by rw [ht, State.accepted_trace], hevs⟩

end Sys2Proof.Machine
end
